-- ==== Sys2Proof/Word.lean ====
section
/-! DEFINITION. The words, times and masks of the Ilajet 1608 (spec/00 Sizes, spec/11 R195). -/

namespace Sys2Proof

/-- A word of the register window, of a record or of the staging layout: 32 bits (spec/00 Sizes). -/
abbrev Word := BitVec 32

/-- A value of the timebase integer: a due time, a timestamp or a taken-at time (R1). -/
abbrev Time := BitVec 56

/-- A set of output lines, bit n standing for OUTn (R195). -/
abbrev LineMask := BitVec 16

/-- A trim, signed: its range -32768 to +32767 is that of 16 bits (R6). -/
abbrev Trim := BitVec 16

/-- Eight words: the staging words, a descriptor, or a report record (spec/11). -/
abbrev Words8 := Vector Word 8

/-- The low word of a time: bits 31:0 (R195). -/
def Time.low (t : Time) : Word := t.extractLsb' 0 32

/-- The high part of a time: bits 55:32 (R195). -/
def Time.high (t : Time) : BitVec 24 := t.extractLsb' 32 24

end Sys2Proof
end

