-- ==== Sys2Proof/Config.lean ====
section
/-! DEFINITION. The constants of the part: capacities, limits, fixed words.
The free values stand last: points on which two rules of the spec disagree, or which the order of the
commands does not tell. -/

namespace Sys2Proof.Config

/-- The top of the timebase integer, 2^56-1, where it saturates (R3). -/
def maxTime : Nat := 2 ^ 56 - 1

/-- Ticks of an epoch (R4). -/
def epoch : Nat := 2 ^ 20

/-- Units of fraction in one tick (R2). -/
def tickUnits : Nat := 2 ^ 24

/-- The largest TIME_STEP (R7). -/
def maxStep : Nat := 2 ^ 40 - 1

/-- Slots of the action table (R37). -/
def tableSlots : Nat := 256

/-- Records the notice queue holds (R131). -/
def noticeSlots : Nat := 32

/-- Records the capture log holds (R116). -/
def logSlots : Nat := 64

/-- LATE_MARGIN after power-on reset (R14, R15). -/
def lateMarginReset : BitVec 16 := 4

/-- The longest PULSE width (R25). -/
def maxWidth : Nat := 2 ^ 24 - 1

/-- The longest generator period (R25, R96). -/
def maxPeriod : Nat := 2 ^ 24

/-- The nine ring sizes (R142, R153). -/
def ringSizes : List Nat := [16, 32, 64, 128, 256, 512, 1024, 2048, 4096]

/-- The longest coalescing delay (R148). -/
def maxDelay : Nat := 2 ^ 20

/-- The largest lateness or skipped count a record shows (R76). -/
def maxShown : Nat := 2 ^ 24 - 1

/-- The identification word: family 2Bh, part 1608h, revision 1 (R187, Table 11-2). -/
def idWord : Word := 0x2B160801

/-- Free: does a power-on reset withdraw the requests in the two slots? R186, R194 and Table 10-2 say
that it empties both slots; R190 says that a waiting request is carried across either reset. The spec
does not settle it, so nothing here does (log entry 10). -/
opaque powerOnWithdraws : Bool

/-- Free: does the FIRED notice of a counted entry that retires by overflow show remaining 0? The table of
R76 gives 0 for a final taking other than NO_ROOM; R71 has the remaining reported as it stands after the
decrease. The spec does not settle it, so nothing here does (log entry 11). -/
opaque overflowShowsZero : Bool

/-- Free: is the step with the draw `n` taken in the TCLK period of the advance that follows it? Then that
advance still uses the trim of before the step, because a step and an advance that come together leave the
same integer in both orders, and a new trim is first used by the next TCLK period's advance (R5, R7). The
order of the commands alone does not tell (log entry 29). -/
opaque stepSharesPeriod : Nat → Bool

end Sys2Proof.Config
end

