-- ==== Sys2Proof/Syntax.lean ====
section
/-! DEFINITION. The commands of the part: one constructor of Instr per row of spec/opcode_table.json,
the commands of the command port, and the registers of the window.
The table gives a row no operands; the operands here are what the row's rule speaks of
(log entry 27, DESIGN CHOICE). -/

namespace Sys2Proof

/-- The direction of an input edge (R109). -/
inductive Edge where
  | rise
  | fall
  deriving DecidableEq, Repr

/-- The 18 commands written to CMD (R177, Table 11-4). -/
inductive Command where
  | admitCandidate | cancelTag | cancelLines | flush | queryTag
  | seqRun | seqStop | seqSingle
  | timeSet | timeStep | trimSet
  | gateOpen | gateClose | faultClear | lineWrite
  | responseLoad | responseArm | responseDisarm
  deriving DecidableEq, Repr

/-- The mapped registers of the window (Table 11-1). -/
inductive Reg where
  | id | control | busStatus | intCause | intEnable | intActive
  | stage (n : Fin 8) | cmd | cmdResult | cmdValue0 | cmdValue1
  | timeLo | timeHi | trimActive | trimPending | lateMargin
  | tableStatus | headDueLo | headDueHi | serialNext | queryDueHi
  | seqStatus | seqConfig
  | outPolarity | outSafe | outMode | outLevel | outPins | faultConfig | gateFaultStatus
  | patternPending | patternFinal | genPeriod (n : Fin 16) | genHigh (n : Fin 16)
  | inLevel | capLogCount | respStatus
  | capConfig (n : Fin 8) | capSeq (n : Fin 8) | capSupp (n : Fin 8) | capLost (n : Fin 8)
  | noticeStatus | reportBase | reportSize | reportProd | reportCons | reportCtrl
  | reportStatus | reportCoal | reportCount
  | aringBase | aringSize | aringProd | aringCons | aringCtrl | aringStatus
  deriving DecidableEq, Repr

/-- A command of the block: one row of spec/opcode_table.json. -/
inductive Instr where
  /-- TIMEBASE_ADVANCE (R2): one TCLK period. -/
  | timebaseAdvance
  /-- POWER_ON_RESET (R186): power-up, or RESET_N becomes asserted. -/
  | powerOnReset
  /-- RESET_N_DEASSERTION (R186). -/
  | resetNDeassertion
  /-- SOFT_RESET (R185): a full-word write of CONTROL with v, its bit 1 at 1. -/
  | softReset (v : Word)
  /-- BUS_MASTER_ENABLE_WRITE (R184): a full-word write of CONTROL with v, its bit 1 at 0. -/
  | busMasterEnableWrite (v : Word)
  /-- NARROW_WRITE (R181): a write that enables fewer than four byte lanes. -/
  | narrowWrite (offset : BitVec 10) (lanes : BitVec 4) (v : Word)
  /-- BUS_STATUS_WRITE (R181). -/
  | busStatusWrite (v : Word)
  /-- REGISTER_WRITE (R183): a full-word write at a window offset whose register has no row of its own. -/
  | registerWrite (offset : BitVec 10) (v : Word)
  /-- TIME_LO_READ (R11). -/
  | timeLoRead
  /-- HEAD_DUE_LO_READ (R57). -/
  | headDueLoRead
  /-- INT_CAUSE_WRITE (R191). -/
  | intCauseWrite (v : Word)
  /-- INT_ENABLE_WRITE (R193). -/
  | intEnableWrite (v : Word)
  /-- COMMAND_ISSUE (R172): a full-word write of CMD that issues one of the 18 commands. -/
  | commandIssue (v : Word)
  /-- BAD_COMMAND (R175): a full-word write of CMD with a code that names no command. -/
  | badCommand (v : Word)
  /-- CMD_OVERRUN (R174): a full-word write of CMD taken while the port is BUSY. -/
  | cmdOverrun (v : Word)
  /-- CMD_RESULT_WRITE (R176). -/
  | cmdResultWrite (v : Word)
  /-- ADMIT (R49): the table controller takes the buffered command. -/
  | admitCandidate
  /-- CANCEL_TAG (R50). -/
  | cancelTag
  /-- CANCEL_LINES (R52). -/
  | cancelLines
  /-- FLUSH (R54). -/
  | flush
  /-- QUERY_TAG (R55). -/
  | queryTag
  /-- SEQ_RUN (R61). -/
  | seqRun
  /-- SEQ_SINGLE (R62). -/
  | seqSingle
  /-- SEQ_STOP (R63). -/
  | seqStop
  /-- TIME_SET (R9, R10). -/
  | timeSet
  /-- TIME_STEP (R7). -/
  | timeStep
  /-- TRIM_SET (R6). -/
  | trimSet
  /-- GATE_OPEN (R86). -/
  | gateOpen
  /-- GATE_CLOSE (R87). -/
  | gateClose
  /-- FAULT_CLEAR (R91). -/
  | faultClear
  /-- LINE_WRITE (R92). -/
  | lineWrite
  /-- RESPONSE_LOAD (R121). -/
  | responseLoad
  /-- RESPONSE_ARM (R122). -/
  | responseArm
  /-- RESPONSE_DISARM (R123). -/
  | responseDisarm
  /-- TAKING (R45, R65). -/
  | taking
  /-- PERIOD_START_EVENT (R101) of generator n. -/
  | periodStartEvent (n : Fin 16)
  /-- FAULT_LATCH (R88): FAULT_N is seen asserted. -/
  | faultLatch
  /-- FAULT_N_SEEN_CHANGE (R88): the synchronised level of FAULT_N changes. -/
  | faultNSeenChange (asserted : Bool)
  /-- FAULT_CLAIM (R47). -/
  | faultClaim
  /-- SEQ_FAULT_EVENT (R80). -/
  | seqFaultEvent
  /-- OUT_POLARITY_WRITE (R84). -/
  | outPolarityWrite (v : Word)
  /-- OUT_SAFE_WRITE (R84). -/
  | outSafeWrite (v : Word)
  /-- FAULT_CONFIG_WRITE (R88). -/
  | faultConfigWrite (v : Word)
  /-- INPUT_EDGE (R109, R113): the synchronised level of INn changes. -/
  | inputEdge (n : Fin 8) (edge : Edge)
  /-- FIRST_SYNCHRONISED_LEVEL (R109). -/
  | firstSynchronisedLevel (n : Fin 8) (level : Bool)
  /-- RESPONSE_CLAIM (R125): the table controller takes the oldest response claim. -/
  | responseClaim
  /-- CAP_CONFIG_WRITE (R111). -/
  | capConfigWrite (n : Fin 8) (v : Word)
  /-- CAP_LOST_WRITE (R119). -/
  | capLostWrite (n : Fin 8) (v : Word)
  /-- REPORT_WRITE_START (R138). -/
  | reportWriteStart
  /-- REPORT_WRITE_DONE (R140): the report burst completes DONE. -/
  | reportWriteDone
  /-- REPORT_WRITE_ERROR (R141): the report burst completes ERROR. -/
  | reportWriteError
  /-- COALESCE_EXPIRY (R149). -/
  | coalesceExpiry
  /-- REPORT_COAL_WRITE (R150). -/
  | reportCoalWrite (v : Word)
  /-- REPORT_BASE_WRITE (R142). -/
  | reportBaseWrite (v : Word)
  /-- REPORT_SIZE_WRITE (R142). -/
  | reportSizeWrite (v : Word)
  /-- REPORT_PROD_WRITE (R142). -/
  | reportProdWrite (v : Word)
  /-- REPORT_CONS_WRITE (R143). -/
  | reportConsWrite (v : Word)
  /-- REPORT_ENABLE (R144): a full-word write of REPORT_CTRL with v, its bit 0 at 1. -/
  | reportEnable (v : Word)
  /-- REPORT_DISABLE (R145): a full-word write of REPORT_CTRL with v, its bit 0 at 0. -/
  | reportDisable (v : Word)
  /-- REPORT_STATUS_WRITE (R147). -/
  | reportStatusWrite (v : Word)
  /-- FETCH_START (R157). -/
  | fetchStart
  /-- FETCH_DONE (R158): the fetch burst completes DONE with the eight words read. -/
  | fetchDone (data : Words8)
  /-- FETCH_ERROR (R164): the fetch burst completes ERROR. -/
  | fetchError
  /-- DESCRIPTOR_CLAIM (R158): the table controller takes the claim of the fetched descriptor. -/
  | descriptorClaim
  /-- RETRY_CLAIM (R162). -/
  | retryClaim
  /-- ARING_BASE_WRITE (R153). -/
  | aringBaseWrite (v : Word)
  /-- ARING_SIZE_WRITE (R153). -/
  | aringSizeWrite (v : Word)
  /-- ARING_CONS_WRITE (R153). -/
  | aringConsWrite (v : Word)
  /-- ARING_PROD_WRITE (R154). -/
  | aringProdWrite (v : Word)
  /-- ARING_ENABLE (R156): a full-word write of ARING_CTRL with v, its bit 0 at 1. -/
  | aringEnable (v : Word)
  /-- ARING_DISABLE (R166): a full-word write of ARING_CTRL with v, its bit 0 at 0. -/
  | aringDisable (v : Word)
  /-- ARING_STATUS_WRITE (R169). -/
  | aringStatusWrite (v : Word)
  /-- BURST_GRANT (R188). -/
  | burstGrant
  deriving DecidableEq, Repr

end Sys2Proof
end

