-- ==== Sys2Proof/Decode.lean ====
section
/-! DEFINITION. Reading words into names: a command code (Table 11-4), a window offset (Table 11-1),
and the opcode table's own words, of which there are none. -/

namespace Sys2Proof

/-- The code of each command (Table 11-4). -/
def Command.code : Command → BitVec 8
  | .admitCandidate => 0x01
  | .cancelTag => 0x02
  | .cancelLines => 0x03
  | .flush => 0x04
  | .queryTag => 0x05
  | .seqRun => 0x10
  | .seqStop => 0x11
  | .seqSingle => 0x12
  | .timeSet => 0x20
  | .timeStep => 0x21
  | .trimSet => 0x22
  | .gateOpen => 0x30
  | .gateClose => 0x31
  | .faultClear => 0x32
  | .lineWrite => 0x33
  | .responseLoad => 0x40
  | .responseArm => 0x41
  | .responseDisarm => 0x42

/-- The command a code names; every other code names none (R175, Table 11-4). -/
def Command.ofCode (c : BitVec 8) : Option Command :=
  match c.toNat with
  | 0x01 => some .admitCandidate
  | 0x02 => some .cancelTag
  | 0x03 => some .cancelLines
  | 0x04 => some .flush
  | 0x05 => some .queryTag
  | 0x10 => some .seqRun
  | 0x11 => some .seqStop
  | 0x12 => some .seqSingle
  | 0x20 => some .timeSet
  | 0x21 => some .timeStep
  | 0x22 => some .trimSet
  | 0x30 => some .gateOpen
  | 0x31 => some .gateClose
  | 0x32 => some .faultClear
  | 0x33 => some .lineWrite
  | 0x40 => some .responseLoad
  | 0x41 => some .responseArm
  | 0x42 => some .responseDisarm
  | _ => none

/-- The command code of a word written to CMD: bits 7:0 (R196). -/
def commandCode (v : Word) : BitVec 8 := v.extractLsb' 0 8

/-- The registers that stand alone, by word index: offset / 4 (Table 11-1). -/
def Reg.single (k : Nat) : Option Reg :=
  match k with
  | 0 => some .id
  | 1 => some .control
  | 2 => some .busStatus
  | 4 => some .intCause
  | 5 => some .intEnable
  | 6 => some .intActive
  | 16 => some .cmd
  | 17 => some .cmdResult
  | 18 => some .cmdValue0
  | 19 => some .cmdValue1
  | 24 => some .timeLo
  | 25 => some .timeHi
  | 26 => some .trimActive
  | 27 => some .trimPending
  | 28 => some .lateMargin
  | 32 => some .tableStatus
  | 33 => some .headDueLo
  | 34 => some .headDueHi
  | 35 => some .serialNext
  | 36 => some .queryDueHi
  | 38 => some .seqStatus
  | 39 => some .seqConfig
  | 40 => some .outPolarity
  | 41 => some .outSafe
  | 42 => some .outMode
  | 43 => some .outLevel
  | 44 => some .outPins
  | 45 => some .faultConfig
  | 46 => some .gateFaultStatus
  | 47 => some .patternPending
  | 48 => some .patternFinal
  | 96 => some .inLevel
  | 97 => some .capLogCount
  | 98 => some .respStatus
  | 144 => some .noticeStatus
  | 145 => some .reportBase
  | 146 => some .reportSize
  | 147 => some .reportProd
  | 148 => some .reportCons
  | 149 => some .reportCtrl
  | 150 => some .reportStatus
  | 151 => some .reportCoal
  | 152 => some .reportCount
  | 160 => some .aringBase
  | 161 => some .aringSize
  | 162 => some .aringProd
  | 163 => some .aringCons
  | 164 => some .aringCtrl
  | 165 => some .aringStatus
  | _ => none

/-- The register at a byte offset of the window, or none where the word is unmapped.
The low two address bits are not examined (R180, Table 11-1). -/
def Reg.ofOffset (offset : BitVec 10) : Option Reg :=
  let k := offset.toNat / 4
  if 8 ≤ k ∧ k < 16 then some (.stage (Fin.ofNat 8 (k - 8)))
  else if 64 ≤ k ∧ k < 80 then some (.genPeriod (Fin.ofNat 16 (k - 64)))
  else if 80 ≤ k ∧ k < 96 then some (.genHigh (Fin.ofNat 16 (k - 80)))
  else if 104 ≤ k ∧ k < 112 then some (.capConfig (Fin.ofNat 8 (k - 104)))
  else if 112 ≤ k ∧ k < 120 then some (.capSeq (Fin.ofNat 8 (k - 112)))
  else if 120 ≤ k ∧ k < 128 then some (.capSupp (Fin.ofNat 8 (k - 120)))
  else if 128 ≤ k ∧ k < 136 then some (.capLost (Fin.ofNat 8 (k - 128)))
  else Reg.single k

/-- The command a word spells by the opcode table's bits: the table gives no row any bits, so no
word spells one (log entry 26). -/
def decodeTableWord (_nbits _w : Nat) : Option Instr := none

end Sys2Proof
end

