-- ==== Sys2Proof/WellFormed.lean ====
section
/-! DEFINITION. What the operands of a row must be for the row to be the right name of the access:
SOFT_RESET writes a one in the soft-reset position, NARROW_WRITE leaves a lane out, and so on.
An ill-formed command is still an access the bus can present; its meaning is what the part does
with that access (log entry 4). -/

namespace Sys2Proof

/-- Does the register have a write row of its own in the opcode table? -/
def Reg.hasOwnRow : Reg → Bool
  | .control | .busStatus | .intCause | .intEnable | .cmd | .cmdResult
  | .outPolarity | .outSafe | .faultConfig
  | .capConfig _ | .capLost _
  | .reportBase | .reportSize | .reportProd | .reportCons | .reportCtrl | .reportStatus
  | .reportCoal
  | .aringBase | .aringSize | .aringProd | .aringCons | .aringCtrl | .aringStatus => true
  | .id | .intActive | .stage _ | .cmdValue0 | .cmdValue1
  | .timeLo | .timeHi | .trimActive | .trimPending | .lateMargin
  | .tableStatus | .headDueLo | .headDueHi | .serialNext | .queryDueHi
  | .seqStatus | .seqConfig | .outMode | .outLevel | .outPins | .gateFaultStatus
  | .patternPending | .patternFinal | .genPeriod _ | .genHigh _
  | .inLevel | .capLogCount | .respStatus | .capSeq _ | .capSupp _
  | .noticeStatus | .reportCount => false

/-- The operands fit the row (see the head of this file). -/
def Instr.wf : Instr → Bool
  | .softReset v => v.getLsbD 1
  | .busMasterEnableWrite v => !v.getLsbD 1
  | .narrowWrite _ lanes _ => lanes != 0xF
  | .registerWrite offset _ =>
    match Reg.ofOffset offset with
    | some r => !r.hasOwnRow
    | none => true
  | .commandIssue v => (Command.ofCode (commandCode v)).isSome
  | .badCommand v => (Command.ofCode (commandCode v)).isNone
  | .reportEnable v => v.getLsbD 0
  | .reportDisable v => !v.getLsbD 0
  | .aringEnable v => v.getLsbD 0
  | .aringDisable v => !v.getLsbD 0
  | .timebaseAdvance | .powerOnReset | .resetNDeassertion | .busStatusWrite _ | .timeLoRead
  | .headDueLoRead | .intCauseWrite _ | .intEnableWrite _ | .cmdOverrun _ | .cmdResultWrite _
  | .admitCandidate | .cancelTag | .cancelLines | .flush | .queryTag | .seqRun | .seqSingle | .seqStop
  | .timeSet | .timeStep | .trimSet | .gateOpen | .gateClose | .faultClear | .lineWrite
  | .responseLoad | .responseArm | .responseDisarm | .taking | .periodStartEvent _
  | .faultLatch | .faultNSeenChange _ | .faultClaim | .seqFaultEvent | .outPolarityWrite _
  | .outSafeWrite _ | .faultConfigWrite _ | .inputEdge _ _ | .firstSynchronisedLevel _ _
  | .responseClaim | .capConfigWrite _ _ | .capLostWrite _ _ | .reportWriteStart
  | .reportWriteDone | .reportWriteError | .coalesceExpiry | .reportCoalWrite _
  | .reportBaseWrite _ | .reportSizeWrite _ | .reportProdWrite _ | .reportConsWrite _
  | .reportStatusWrite _ | .fetchStart | .fetchDone _ | .fetchError | .descriptorClaim
  | .retryClaim | .aringBaseWrite _ | .aringSizeWrite _ | .aringConsWrite _
  | .aringProdWrite _ | .aringStatusWrite _ | .burstGrant => true

end Sys2Proof
end

