-- ==== Sys2Proof/Machine/State.lean ====
section
/-! DEFINITION. The state of the part, block by block (Table 0-1), as plain data, and its value just
after reset. Counts and marks that the spec makes a function of other state (entry count, line mode,
busy mark, saturation, pin levels, INT_N) are computed, never stored (log entry 22). -/

namespace Sys2Proof.Machine

/-! ### Names the blocks share -/

/-- Result codes, and the reason codes of refusals (R177, Table 11-3). -/
inductive ResultCode where
  | ok | badCommand | badKind | noLines | badParam | badRepeat | badTime | tableFull
  | state | pulsePending | linesBusy | faultActive | badIndex
  deriving DecidableEq, Repr

/-- The ten interrupt causes, in the order of their positions (Table 10-1, Table 11-2). -/
inductive Cause where
  | report | admitHeld | admitReject | ringError | captureLoss | noticeLoss | late | fault
  | seqStop | timeLimit
  deriving DecidableEq, Repr

/-- The two ring engines that ask for bursts (R188). -/
inductive Engine where
  | admission
  | report
  deriving DecidableEq, Repr

/-! ### Timebase unit (Chapter 1) -/

/-- The timebase unit (R1 to R16). It is saturated exactly when `integer` is 2^56-1 (R3). -/
structure Timebase where
  /-- The tick count (R1). -/
  integer : Time
  /-- The fraction, in units of 2^-24 tick (R1). -/
  fraction : BitVec 24
  /-- The active trim, signed (R2). -/
  trimActive : Trim
  /-- The trim of before a step of this TCLK period, which the period's advance still uses where the step
  made another one active (R5, R7; log entry 29). -/
  heldTrim : Option Trim
  /-- The pending trim, signed (R6). -/
  trimPending : Trim
  /-- LATE_MARGIN (R14). -/
  lateMargin : BitVec 16
  /-- The snapshot hold (R11). -/
  snapshotHold : BitVec 24
  deriving DecidableEq, Repr

/-! ### Action table (Chapters 2 and 3) -/

/-- The eight admissible kinds (R18). -/
inductive Kind where
  | set | clear | toggle | pulse | patternLoad | patternStart | patternStop | mark
  deriving DecidableEq, Repr

/-- A period and a high time (R96). -/
structure Pair where
  period : BitVec 25
  high : BitVec 25
  deriving DecidableEq, Repr

/-- The two modes of PATTERN_STOP (R102). -/
inductive StopMode where
  | now
  | atBoundary
  deriving DecidableEq, Repr

/-- The kind of an entry with the parameters the kind uses (R17, R18, R25). -/
inductive Action where
  | set
  | clear
  | toggle
  /-- A PULSE and its width in ticks. -/
  | pulse (width : BitVec 24)
  | patternLoad (pair : Pair)
  | patternStart
  | patternStop (mode : StopMode) (final : Bool)
  | mark
  /-- The internal entry that ends a pulse (R33); no candidate has this kind (R18). -/
  | trail
  deriving DecidableEq, Repr

/-- The late policy (R23). -/
inductive LatePolicy where
  | fireLate
  | dropLate
  deriving DecidableEq, Repr

/-- The report option (R24). -/
inductive ReportOption where
  | none
  | each
  | final
  deriving DecidableEq, Repr

/-- The repeat of an entry (R26). `remaining` is absent for an unlimited entry (count 0). -/
structure Repeat where
  interval : BitVec 32
  count : BitVec 16
  remaining : Option (BitVec 16)
  deriving DecidableEq, Repr

/-- An entry of the action table (R17). A TRAIL entry has no late policy, report option or repeat
(R33): its `late` and `report` are never read (log entry 19). -/
structure Entry where
  action : Action
  lines : LineMask
  due : Time
  tag : BitVec 16
  late : LatePolicy
  report : ReportOption
  rep : Option Repeat
  serial : BitVec 32
  /-- A reservation is held (R28). -/
  reserved : Bool
  deriving DecidableEq, Repr

/-- The table controller (R37). The counts are computed from `entries`. -/
structure Table where
  /-- The entries in table order, head first (R39). -/
  entries : List Entry
  /-- The admission serial counter (R27). -/
  serialNext : BitVec 32
  /-- The head hold (R57). -/
  headHold : BitVec 24
  /-- The query hold (R55). -/
  queryHold : BitVec 24
  deriving DecidableEq, Repr

/-! ### Sequencer (Chapter 4) -/

/-- The sequencer's state (R60). -/
inductive SeqState where
  | stopped
  | running
  | single
  deriving DecidableEq, Repr

/-- The stop cause (R60). -/
inductive StopCause where
  | reset
  | command
  | single
  | fault
  deriving DecidableEq, Repr

/-- The sequencer (R60). -/
structure Sequencer where
  state : SeqState
  stopCause : StopCause
  /-- The TABLE_EMPTY reporting enable (R79). -/
  emptyReport : Bool
  deriving DecidableEq, Repr

/-! ### Line unit (Chapter 5) -/

/-- A pattern generator (R96). -/
structure Generator where
  running : Bool
  active : Pair
  shadow : Pair
  /-- The start time from which period starts are counted. -/
  start : Time
  /-- The next period start N of R101: a number, since it may lie above 2^56-1 (R100; log entry 8). -/
  nextStart : Nat
  reloadPending : Bool
  /-- The final level of a pending stop. -/
  pendingStop : Option Bool
  deriving DecidableEq, Repr

/-- The line unit (R83, R88). A line is in PATTERN mode exactly while its generator runs (R85). -/
structure LineUnit where
  /-- The logical levels of the STATIC lines; a PATTERN line's bit is not its level (log entry 18). -/
  level : LineMask
  /-- The INVERTED lines (R84). -/
  polarity : LineMask
  /-- The lines of safe level 1 (R84). -/
  safe : LineMask
  gateOpen : Bool
  faultLatch : Bool
  faultEnable : Bool
  /-- FAULT_N is seen asserted: its synchronised level (R88; log entry 6). -/
  faultSeen : Bool
  gens : Vector Generator 16
  /-- Fault events given to the sequencer and not yet taken (R88, R80; log entry 16). -/
  faultEvents : Nat
  /-- Fault claims made on the table controller and not yet taken (R88, R47; log entry 16). -/
  faultClaims : Nat
  deriving DecidableEq, Repr

/-! ### Capture and response units (Chapter 6) -/

/-- The edge select (R111). -/
inductive EdgeSelect where
  | rise
  | fall
  | both
  deriving DecidableEq, Repr

/-- One input line (R109, R111, R113 to R118). -/
structure InputLine where
  /-- The synchronised level; absent until the first level is taken (R109). -/
  sync : Option Bool
  enable : Bool
  select : EdgeSelect
  holdoff : BitVec 16
  /-- The last accepted timestamp (R113). -/
  lastAccepted : Option Time
  seq : BitVec 32
  supp : BitVec 16
  lost : BitVec 32
  deriving DecidableEq, Repr

/-- A capture record (R115). -/
structure CaptureRecord where
  line : Fin 8
  edge : Edge
  stamp : Time
  seq : BitVec 32
  supp : BitVec 16
  deriving DecidableEq, Repr

/-- The capture unit: the eight input lines and the capture log, oldest first (R116). -/
structure CaptureUnit where
  inputs : Vector InputLine 8
  log : List CaptureRecord
  deriving DecidableEq, Repr

/-- The arm mode of a template (R120). -/
inductive ArmMode where
  | oneShot
  | continuous
  deriving DecidableEq, Repr

/-- The template states (R120). -/
inductive TemplateState where
  | empty
  | disarmed
  | armed
  | claiming
  deriving DecidableEq, Repr

/-- The action fields of a template (R120). -/
structure TemplateFields where
  /-- The kind; absent is the kind code 0 of a reset, which names no kind (R18, R130). -/
  kind : Option Kind
  lines : LineMask
  tag : BitVec 16
  late : LatePolicy
  report : ReportOption
  /-- Param A, 0 where the kind ignores it (R25; log entry 21). -/
  paramA : Word
  /-- Param B, 0 where the kind ignores it (R25; log entry 21). -/
  paramB : Word
  deriving DecidableEq, Repr

/-- A response template (R120). -/
structure Template where
  state : TemplateState
  fields : TemplateFields
  delay : BitVec 32
  mode : ArmMode
  deriving DecidableEq, Repr

/-- An outstanding response claim: the line, the template's fields and delay as they stood, and the edge's
timestamp (R124). -/
structure ResponseClaim where
  line : Fin 8
  fields : TemplateFields
  delay : BitVec 32
  stamp : Time
  deriving DecidableEq, Repr

/-- The response unit: the templates, and the outstanding claims in the order made (R124). -/
structure ResponseUnit where
  templates : Vector Template 8
  claims : List ResponseClaim
  deriving DecidableEq, Repr

/-! ### Report unit (Chapter 7) -/

/-- What a FIRED notice carries beside its time (R76). -/
structure FiredNotice where
  late : Bool
  final : Bool
  trail : Bool
  noRoom : Bool
  serial : BitVec 32
  tag : BitVec 16
  due : Time
  remaining : BitVec 16
  refused : LineMask
  lateness : BitVec 24
  skipped : BitVec 24
  deriving DecidableEq, Repr

/-- What a DROPPED notice carries beside its time (R77). -/
structure DroppedNotice where
  final : Bool
  serial : BitVec 32
  tag : BitVec 16
  due : Time
  remaining : BitVec 16
  skipped : BitVec 24
  deriving DecidableEq, Repr

/-- The nine kinds of notice and what each carries beside its time (R135). -/
inductive NoticeBody where
  | fired (n : FiredNotice)
  | dropped (n : DroppedNotice)
  | rejected (index : BitVec 12) (reason : ResultCode) (tag : BitVec 16)
  | responseLost (line : Fin 8) (stamp : Time) (reason : ResultCode)
  | seqStopped (cause : StopCause)
  | patternStopped (line : Fin 16) (final : Bool) (mode : StopMode)
  | trimApplied (trim : Trim)
  | tableEmpty
  | noticeLoss (count : BitVec 32)
  deriving DecidableEq, Repr

/-- A notice: its time, fixed when it is built, and its contents (R135). -/
structure Notice where
  time : Time
  body : NoticeBody
  deriving DecidableEq, Repr

/-- The two sources of the report writer (R137). -/
inductive Source where
  | notice
  | capture
  deriving DecidableEq, Repr

/-- The words and marks the two rings have alike (R142, R144, R145, R153, R156, R166). -/
structure Ring where
  /-- The byte address of slot 0, a multiple of 64. -/
  base : Word
  size : Nat
  prod : Nat
  cons : Nat
  /-- The stored enable. -/
  enable : Bool
  disablePending : Bool
  ignoredWrite : Bool
  enableRefused : Bool
  /-- A burst abandoned by a reset is still outstanding (R152, R170). -/
  abandoned : Bool
  deriving DecidableEq, Repr

/-- The report ring's states (R138). -/
inductive ReportState where
  | disabled
  | running
  | full
  | halted
  deriving DecidableEq, Repr

/-- The report unit (R131 to R152). -/
structure ReportUnit where
  /-- The notice queue, oldest first (R131). -/
  notices : List Notice
  /-- The notice-loss counter (R133). -/
  noticeLoss : BitVec 32
  state : ReportState
  ring : Ring
  /-- The source of the record whose write is in flight (R138). -/
  inFlight : Option Source
  /-- The last-source mark (R137). -/
  lastSource : Source
  threshold : Nat
  delay : Nat
  /-- The unsignalled count (R148). -/
  count : Nat
  /-- The wait start; a wait is in progress while `count` is above 0 (R149; log entry 15). -/
  waitStart : Time
  deriving DecidableEq, Repr

/-! ### Admission ring engine (Chapter 8) -/

/-- The admission ring's states (R156). -/
inductive AringState where
  | disabled
  | running
  | held
  | halted
  deriving DecidableEq, Repr

/-- How far the fetch in flight has come (R157, R158). -/
inductive Fetch where
  /-- No fetch is in flight. -/
  | idle
  /-- The burst is requested and has not completed. -/
  | burst
  /-- The burst is done and the claim waits for the table controller. -/
  | claim
  deriving DecidableEq, Repr

/-- The admission ring engine (R153 to R170). -/
structure AdmissionRing where
  state : AringState
  ring : Ring
  /-- The fetch buffer (R158). -/
  buffer : Option Words8
  fetch : Fetch
  /-- A retry claim is outstanding (R162). -/
  retry : Bool
  deriving DecidableEq, Repr

/-! ### Command port, interrupt unit, bus interface (Chapters 9 and 10) -/

/-- The command in the command buffer, with its copy of the staging words (R172). -/
structure Issued where
  command : Command
  words : Words8
  deriving DecidableEq, Repr

/-- The command port (R171 to R176). It is BUSY exactly while its buffer holds a command. -/
structure CommandPort where
  staging : Words8
  buffer : Option Issued
  result : ResultCode
  resultCommand : BitVec 8
  value0 : Word
  value1 : Word
  /-- The completion count (R173). -/
  completions : BitVec 8
  overrun : Bool
  deriving DecidableEq, Repr

/-- The interrupt unit (R191 to R193); bit positions as in INT_CAUSE (Table 11-2). -/
structure InterruptUnit where
  causes : BitVec 10
  enables : BitVec 10
  haltReport : Bool
  haltAdmission : Bool
  deriving DecidableEq, Repr

/-- A write request: the address and the 32 bytes as eight words (R188). -/
structure WriteRequest where
  address : Word
  data : Words8
  deriving DecidableEq, Repr

/-- The bus interface (R180 to R190). -/
structure BusInterface where
  masterEnable : Bool
  narrowFlag : Bool
  /-- The engine whose request was last granted (R188). -/
  grantMark : Engine
  /-- The admission engine's request slot: the address to read (R188). -/
  admissionSlot : Option Word
  /-- The report unit's request slot (R188). -/
  reportSlot : Option WriteRequest
  /-- The engine whose burst is on the bus (R188). -/
  onBus : Option Engine
  /-- The word the last read command returned: the model's own field (log entry 17). -/
  readData : Word
  deriving DecidableEq, Repr

/-! ### The part -/

/-- The state of the part. -/
structure State where
  timebase : Timebase
  table : Table
  seq : Sequencer
  lines : LineUnit
  capture : CaptureUnit
  response : ResponseUnit
  report : ReportUnit
  aring : AdmissionRing
  port : CommandPort
  irq : InterruptUnit
  bus : BusInterface
  /-- RESET_N is asserted (R186). -/
  resetAsserted : Bool
  /-- The draws of the free Config.stepSharesPeriod so far: the model's own field (log entry 29). -/
  periodDraws : Nat
  /-- The commands waiting to be taken, first in, first out: the model's own queue. -/
  pending : List Instr
  deriving DecidableEq, Repr

/-- The reasons a step could stop the machine with a fault: there are none. Every command of the part
has an effect or none, and no condition of the spec stops it (the part's own fault, R88, is state). -/
inductive Fault where
  deriving DecidableEq, Repr

/-- The reasons a command could be refused. -/
inductive Refusal where
  /-- Raised by an arm of exec for a command that has no meaning yet. Safe: the model stops. -/
  | notModelled (mnemonic : String)
  deriving DecidableEq, Repr

/-! ### Reset values -/

/-- Power-on values of the timebase unit (R15). -/
def Timebase.reset : Timebase :=
  { integer := 0, fraction := 0, trimActive := 0, heldTrim := none, trimPending := 0,
    lateMargin := Config.lateMarginReset, snapshotHold := 0 }

/-- Reset values of the table controller (R36, R59). -/
def Table.reset : Table :=
  { entries := [], serialNext := 0, headHold := 0, queryHold := 0 }

/-- Reset values of the sequencer (R82). -/
def Sequencer.reset : Sequencer :=
  { state := .stopped, stopCause := .reset, emptyReport := false }

/-- Reset values of a generator (R108); the next period start of a stopped generator has no effect. -/
def Generator.reset : Generator :=
  { running := false, active := ⟨2, 0⟩, shadow := ⟨2, 0⟩, start := 0, nextStart := 0,
    reloadPending := false, pendingStop := none }

/-- Power-on values of the line unit (R107; FAULT_N's level: log entry 6, DESIGN CHOICE). -/
def LineUnit.reset : LineUnit :=
  { level := 0, polarity := 0, safe := 0, gateOpen := false, faultLatch := false,
    faultEnable := false, faultSeen := false, gens := Vector.replicate 16 Generator.reset,
    faultEvents := 0, faultClaims := 0 }

/-- Reset values of an input line (R129). -/
def InputLine.reset : InputLine :=
  { sync := none, enable := false, select := .rise, holdoff := 0, lastAccepted := none,
    seq := 0, supp := 0, lost := 0 }

/-- Reset values of the capture unit (R129). -/
def CaptureUnit.reset : CaptureUnit :=
  { inputs := Vector.replicate 8 InputLine.reset, log := [] }

/-- Reset values of a template: every field, the delay and the arm mode at 0 (R130, Table 6-2). -/
def Template.reset : Template :=
  { state := .empty
    fields := { kind := none, lines := 0, tag := 0, late := .fireLate, report := .none
                paramA := 0, paramB := 0 }
    delay := 0, mode := .oneShot }

/-- Reset values of the response unit (R130). -/
def ResponseUnit.reset : ResponseUnit :=
  { templates := Vector.replicate 8 Template.reset, claims := [] }

/-- Reset values of a ring with no burst abandoned (R151, R170). -/
def Ring.reset : Ring :=
  { base := 0, size := 16, prod := 0, cons := 0, enable := false, disablePending := false,
    ignoredWrite := false, enableRefused := false, abandoned := false }

/-- Reset values of the report unit with no write abandoned (R151; wait start: log entry 15). -/
def ReportUnit.reset : ReportUnit :=
  { notices := [], noticeLoss := 0, state := .disabled, ring := Ring.reset, inFlight := none,
    lastSource := .capture, threshold := 1, delay := 0, count := 0, waitStart := 0 }

/-- Reset values of the admission ring engine with no fetch abandoned (R170). -/
def AdmissionRing.reset : AdmissionRing :=
  { state := .disabled, ring := Ring.reset, buffer := none, fetch := .idle, retry := false }

/-- Reset values of the command port (R179). -/
def CommandPort.reset : CommandPort :=
  { staging := Vector.replicate 8 0, buffer := none, result := .ok, resultCommand := 0,
    value0 := 0, value1 := 0, completions := 0, overrun := false }

/-- Reset values of the interrupt unit (R194). -/
def InterruptUnit.reset : InterruptUnit :=
  { causes := 0, enables := 0, haltReport := false, haltAdmission := false }

/-- Power-on values of the bus interface (R194; readData: log entry 17, DESIGN CHOICE). -/
def BusInterface.reset : BusInterface :=
  { masterEnable := false, narrowFlag := false, grantMark := .report, admissionSlot := none,
    reportSlot := none, onBus := none, readData := 0 }

/-- The part just after the first power-on reset, RESET_N deasserted (R186; log entry 5). -/
def State.reset : State :=
  { timebase := Timebase.reset, table := Table.reset, seq := Sequencer.reset,
    lines := LineUnit.reset, capture := CaptureUnit.reset, response := ResponseUnit.reset,
    report := ReportUnit.reset, aring := AdmissionRing.reset, port := CommandPort.reset,
    irq := InterruptUnit.reset, bus := BusInterface.reset, resetAsserted := false,
    periodDraws := 0, pending := [] }

end Sys2Proof.Machine
end

