-- ==== Sys2Proof/Machine/Operands.lean ====
section
/-! DEFINITION. Every layout of Chapter 11 read or written: result codes, the staging layout and its
checks 1 to 4, response templates, report records. -/

namespace Sys2Proof.Machine

/-! ### Bit helpers -/

/-- A Bool as a bit at position `n` of a word. -/
def bitAt (b : Bool) (n : Nat) : Word := if b then 1#32 <<< n else 0

/-- The line mask holding the one line `n` (R195). -/
def lineBit (n : Fin 16) : LineMask := 1#16 <<< n.val

/-- A mask with line `n` at the level `b`. -/
def setLine (m : LineMask) (n : Fin 16) (b : Bool) : LineMask :=
  if b then m ||| lineBit n else m &&& ~~~ lineBit n

/-- A saturating increment: the counter holds at its top once it gets there (R114, R118, R133). -/
def satInc {w : Nat} (x : BitVec w) : BitVec w := if x = BitVec.allOnes w then x else x + 1

/-- A lateness or skipped count as a record shows it: limited to 2^24-1 (R76). -/
def shown (n : Nat) : BitVec 24 := BitVec.ofNat 24 (min n Config.maxShown)

/-- A 24-bit high part in the low bits of a word (R195). -/
def highWord (h : BitVec 24) : Word := h.setWidth 32

/-- The number 64-bit arguments name: the low half in word 0 (R7, R9). -/
def wideArgument (w : Words8) : Nat := w[0].toNat + 2 ^ 32 * w[1].toNat

/-! ### Codes -/

/-- The number of a result or reason code (Table 11-3). -/
def ResultCode.code : ResultCode → BitVec 8
  | .ok => 0
  | .badCommand => 1
  | .badKind => 2
  | .noLines => 3
  | .badParam => 4
  | .badRepeat => 5
  | .badTime => 6
  | .tableFull => 7
  | .state => 8
  | .pulsePending => 9
  | .linesBusy => 10
  | .faultActive => 11
  | .badIndex => 12

/-- The code of a sequencer state (Table 11-2, SEQ_STATUS). -/
def SeqState.code : SeqState → Word
  | .stopped => 0
  | .running => 1
  | .single => 2

/-- The code of a stop cause (Table 11-2, SEQ_STATUS). -/
def StopCause.code : StopCause → Word
  | .reset => 0
  | .command => 1
  | .single => 2
  | .fault => 3

/-- The code of a template state (Table 11-2, RESP_STATUS). -/
def TemplateState.code : TemplateState → Word
  | .empty => 0
  | .disarmed => 1
  | .armed => 2
  | .claiming => 3

/-- The code of an edge select (Table 11-2, CAP_CONFIG_n). -/
def EdgeSelect.code : EdgeSelect → Word
  | .rise => 0
  | .fall => 1
  | .both => 2

/-- The edge select of an encoding; the fourth is invalid (R111). -/
def EdgeSelect.ofCode (c : BitVec 2) : Option EdgeSelect :=
  match c.toNat with
  | 0 => some .rise
  | 1 => some .fall
  | 2 => some .both
  | _ => none

/-- The code of a report ring state (Table 11-2, REPORT_STATUS). -/
def ReportState.code : ReportState → Word
  | .disabled => 0
  | .running => 1
  | .full => 2
  | .halted => 3

/-- The code of an admission ring state (Table 11-2, ARING_STATUS). -/
def AringState.code : AringState → Word
  | .disabled => 0
  | .running => 1
  | .held => 2
  | .halted => 3

/-! ### The staging layout (Table 11-5) -/

/-- The kind of a kind code; every other code is BAD_KIND (R18, R197). -/
def Kind.ofCode (c : BitVec 8) : Option Kind :=
  match c.toNat with
  | 1 => some .set
  | 2 => some .clear
  | 3 => some .toggle
  | 4 => some .pulse
  | 5 => some .patternLoad
  | 6 => some .patternStart
  | 7 => some .patternStop
  | 8 => some .mark
  | _ => none

/-- The report option of an encoding; the fourth is not a report option (R24, R197). -/
def ReportOption.ofCode (c : BitVec 2) : Option ReportOption :=
  match c.toNat with
  | 0 => some ReportOption.none
  | 1 => some .each
  | 2 => some .final
  | _ => Option.none

/-- The action of a kind and its parameters, or none where a used parameter is out of range; param A
is looked at before param B, and an ignored parameter is not looked at (R25). -/
def Kind.action (k : Kind) (a b : Word) : Option Action :=
  match k with
  | .set => some .set
  | .clear => some .clear
  | .toggle => some .toggle
  | .pulse =>
    if 1 ≤ a.toNat ∧ a.toNat ≤ Config.maxWidth then some (.pulse (a.setWidth 24)) else none
  | .patternLoad =>
    if 2 ≤ a.toNat ∧ a.toNat ≤ Config.maxPeriod ∧ b.toNat ≤ a.toNat then
      some (.patternLoad ⟨a.setWidth 25, b.setWidth 25⟩)
    else none
  | .patternStart => some .patternStart
  | .patternStop =>
    if a.toNat ≤ 1 ∧ b.toNat ≤ 1 then
      some (.patternStop (if a = 0 then .now else .atBoundary) (b = 1))
    else none
  | .mark => some .mark

/-- The kind uses param A (R25). -/
def Kind.usesA : Kind → Bool
  | .pulse | .patternLoad | .patternStop => true
  | .set | .clear | .toggle | .patternStart | .mark => false

/-- The kind uses param B (R25). -/
def Kind.usesB : Kind → Bool
  | .patternLoad | .patternStop => true
  | .set | .clear | .toggle | .pulse | .patternStart | .mark => false

/-- The action fields that ADMIT, a descriptor and RESPONSE_LOAD share, as they stand in the words. -/
structure RawFields where
  kindCode : BitVec 8
  lines : LineMask
  late : LatePolicy
  reportCode : BitVec 2
  tag : BitVec 16
  paramA : Word
  paramB : Word
  deriving DecidableEq, Repr

/-- The fields at their staging positions (Table 11-5). -/
def RawFields.ofWords (w : Words8) : RawFields :=
  { kindCode := w[0].extractLsb' 16 8
    lines := w[0].extractLsb' 0 16
    late := if w[0].getLsbD 25 then .dropLate else .fireLate
    reportCode := w[0].extractLsb' 26 2
    tag := w[1].extractLsb' 0 16
    paramA := w[4]
    paramB := w[5] }

/-- Action fields that have passed checks 1 to 3 of R29. -/
structure CheckedFields where
  action : Action
  lines : LineMask
  report : ReportOption
  deriving DecidableEq, Repr

/-- Checks 1, 2 and 3 of R29, in order: kind, lines, then report encoding and parameters.
A MARK records an empty line set (R19). -/
def RawFields.check (f : RawFields) : Except ResultCode CheckedFields :=
  match Kind.ofCode f.kindCode with
  | none => .error .badKind
  | some k =>
    if k ≠ .mark ∧ f.lines = 0 then .error .noLines
    else
      match ReportOption.ofCode f.reportCode with
      | none => .error .badParam
      | some r =>
        match k.action f.paramA f.paramB with
        | none => .error .badParam
        | some a => .ok { action := a, lines := if k = .mark then 0 else f.lines, report := r }

/-- A candidate entry (R197): the action fields, the repeat where present, the timing and the
due or offset. -/
structure Candidate where
  fields : RawFields
  relative : Bool
  /-- Interval and count, where the repeat is present (R26). -/
  rep : Option (BitVec 32 × BitVec 16)
  /-- The due or offset, 56 bits (R20). -/
  time : Time
  deriving DecidableEq, Repr

/-- A candidate read from eight words in the staging layout (R197, Table 11-5). -/
def Candidate.ofWords (w : Words8) : Candidate :=
  { fields := RawFields.ofWords w
    relative := w[0].getLsbD 24
    rep := if w[0].getLsbD 28 then some (w[6], w[1].extractLsb' 16 16) else none
    time := w[3].extractLsb' 0 24 ++ w[2] }

/-- Check 4 of R29: a present repeat has an interval above 0, and above the width for a PULSE (R26). -/
def repeatFits (a : Action) (rep : Option (BitVec 32 × BitVec 16)) : Bool :=
  match rep with
  | none => true
  | some (interval, _) =>
    match a with
    | .pulse width => decide (interval ≠ 0 ∧ width.toNat < interval.toNat)
    | _ => decide (interval ≠ 0)

/-- The repeat an admitted entry holds: a counted one starts with remaining equal to its count, an
unlimited one (count 0) has no remaining (R26). -/
def repeatOf (rep : Option (BitVec 32 × BitVec 16)) : Option Repeat :=
  match rep with
  | none => none
  | some (interval, count) =>
    some ⟨interval, count, if count = 0 then none else some count⟩

/-- The due of a base plus an offset, or none where it lies above 2^56-1 (R20). -/
def dueAfter (base : Time) (offset : Nat) : Option Time :=
  if base.toNat + offset ≤ Config.maxTime then some (BitVec.ofNat 56 (base.toNat + offset))
  else none

/-! ### Response templates (R121, R198) -/

/-- The template number of RESPONSE_LOAD: the repeat-count position (R198). -/
def templateNumber (w : Words8) : Nat := (w[1].extractLsb' 16 16).toNat

/-- The fields RESPONSE_LOAD gives a template whose fields passed their checks; an ignored parameter is
not kept (R25, R121). -/
def TemplateFields.ofChecked (r : RawFields) (f : CheckedFields) : TemplateFields :=
  let kind := Kind.ofCode r.kindCode
  { kind := kind
    lines := f.lines
    tag := r.tag
    late := r.late
    report := f.report
    paramA := if kind.any Kind.usesA then r.paramA else 0
    paramB := if kind.any Kind.usesB then r.paramB else 0 }

/-- The template RESPONSE_LOAD leaves (R121, R198). -/
def Template.loaded (w : Words8) (f : CheckedFields) : Template :=
  { state := .disarmed
    fields := TemplateFields.ofChecked (RawFields.ofWords w) f
    delay := w[6]
    mode := if w[0].getLsbD 24 then .continuous else .oneShot }

/-- The action a template's fields name. A loaded template's fields passed checks 1 to 3 at their load
(R35), so the errors of those checks meet only fields that no load has left. -/
def TemplateFields.action (f : TemplateFields) : Except ResultCode Action :=
  match f.kind with
  | none => .error .badKind
  | some k =>
    match k.action f.paramA f.paramB with
    | none => .error .badParam
    | some a => .ok a

/-! ### Report records (Tables 11-7 and 11-8) -/

/-- Words 0 and 1 of a record: kind in bits 3:0, flags in bits 7:4, time (Table 11-7). -/
def recordHead (kind flags : Word) (time : Time) : Word × Word :=
  (kind ||| flags ||| (highWord time.high <<< 8), time.low)

/-- The record of a capture record (Table 11-8). -/
def CaptureRecord.words (r : CaptureRecord) : Words8 :=
  let h := recordHead 1 0 r.stamp
  #v[h.1, h.2, BitVec.ofNat 32 r.line.val ||| bitAt (r.edge == .fall) 8, r.seq,
    r.supp.setWidth 32, 0, 0, 0]

/-- The flags of a FIRED record, bits 7:4 of word 0 (Table 11-7). -/
def FiredNotice.flags (n : FiredNotice) : Word :=
  bitAt n.late 4 ||| bitAt n.final 5 ||| bitAt n.trail 6 ||| bitAt n.noRoom 7

/-- Tag in bits 15:0 and remaining in bits 31:16 (Table 11-8). -/
def tagRemaining (tag remaining : BitVec 16) : Word := remaining ++ tag

/-- The record of a notice (Table 11-8); a blank position is 0 (R199). -/
def Notice.words (n : Notice) : Words8 :=
  match n.body with
  | .fired f =>
    let h := recordHead 2 f.flags n.time
    #v[h.1, h.2, f.serial, tagRemaining f.tag f.remaining, f.due.low, highWord f.due.high,
      f.refused.extractLsb' 0 8 ++ f.lateness, f.refused.extractLsb' 8 8 ++ f.skipped]
  | .dropped d =>
    let h := recordHead 3 (bitAt d.final 5) n.time
    #v[h.1, h.2, d.serial, tagRemaining d.tag d.remaining, d.due.low, highWord d.due.high, 0,
      d.skipped.setWidth 32]
  | .rejected index reason tag =>
    let h := recordHead 4 0 n.time
    #v[h.1, h.2, index.setWidth 32 ||| (reason.code.setWidth 32 <<< 16), tag.setWidth 32,
      0, 0, 0, 0]
  | .responseLost line stamp reason =>
    let h := recordHead 5 0 n.time
    #v[h.1, h.2, BitVec.ofNat 32 line.val ||| (reason.code.setWidth 32 <<< 16), stamp.low,
      highWord stamp.high, 0, 0, 0]
  | .seqStopped cause =>
    let h := recordHead 6 0 n.time
    #v[h.1, h.2, cause.code, 0, 0, 0, 0, 0]
  | .patternStopped line final mode =>
    let h := recordHead 7 0 n.time
    #v[h.1, h.2, BitVec.ofNat 32 line.val ||| bitAt final 8 ||| bitAt (mode == .atBoundary) 16,
      0, 0, 0, 0, 0]
  | .trimApplied trim =>
    let h := recordHead 8 0 n.time
    #v[h.1, h.2, trim.signExtend 32, 0, 0, 0, 0, 0]
  | .tableEmpty =>
    let h := recordHead 9 0 n.time
    #v[h.1, h.2, 0, 0, 0, 0, 0, 0]
  | .noticeLoss count =>
    let h := recordHead 10 0 n.time
    #v[h.1, h.2, count, 0, 0, 0, 0, 0]

end Sys2Proof.Machine
end

