-- ==== Sys2Proof/Machine/Flags.lean ====
section
/-! DEFINITION. The interrupt unit's bits (Chapter 10, Section 10.4): setting a cause, clearing by
writing ones, INT_N; and the write-one-to-clear flags of the two rings' status words. -/

namespace Sys2Proof.Machine

/-- The position of a cause in INT_CAUSE (Table 11-2). -/
def Cause.position : Cause → Nat
  | .report => 0
  | .admitHeld => 1
  | .admitReject => 2
  | .ringError => 3
  | .captureLoss => 4
  | .noticeLoss => 5
  | .late => 6
  | .fault => 7
  | .seqStop => 8
  | .timeLimit => 9

/-- The cause's bit. -/
def Cause.bit (c : Cause) : BitVec 10 := 1#10 <<< c.position

/-- Is the cause set? -/
def InterruptUnit.isSet (u : InterruptUnit) (c : Cause) : Bool := u.causes.getLsbD c.position

/-- Setting a cause: it becomes set whatever its enable, and one already set stays set (R191). -/
def InterruptUnit.set (u : InterruptUnit) (c : Cause) : InterruptUnit :=
  { u with causes := u.causes ||| c.bit }

/-- A block sets a cause (R191). -/
def raise (c : Cause) (s : State) : State := { s with irq := s.irq.set c }

/-- A block sets a cause where a condition holds. -/
def raiseIf (b : Bool) (c : Cause) (s : State) : State :=
  { s with irq := if b then s.irq.set c else s.irq }

/-- The causes both set and enabled (R193). -/
def InterruptUnit.active (u : InterruptUnit) : BitVec 10 := u.causes &&& u.enables

/-- INT_N is asserted while at least one cause is both set and enabled, and deasserted while RESET_N
is asserted (R186, R193). -/
def State.intAsserted (s : State) : Bool := !s.resetAsserted && s.irq.active != 0

/-- A full-word write of INT_CAUSE: each cause and halt flag written with one is cleared (R191, R192). -/
def InterruptUnit.clearWritten (u : InterruptUnit) (v : Word) : InterruptUnit :=
  { u with
    causes := u.causes &&& ~~~ v.extractLsb' 0 10
    haltReport := u.haltReport && !v.getLsbD 16
    haltAdmission := u.haltAdmission && !v.getLsbD 17 }

/-- A full-word write of a ring's status word: bit 8 clears the ignored-write flag, bit 9 the
enable-refused flag (R200). -/
def Ring.clearFlags (r : Ring) (v : Word) : Ring :=
  { r with
    ignoredWrite := r.ignoredWrite && !v.getLsbD 8
    enableRefused := r.enableRefused && !v.getLsbD 9 }

end Sys2Proof.Machine
end

