-- ==== Sys2Proof/Machine/Ops.lean ====
section
/-! DEFINITION. Operations several families share: events while RESET_N is deasserted, offering a
notice, the action table's list and counts, validation and admission, the occupancy-fall signal,
answering a command, entering STOPPED, the words the two rings have alike, and the levels of the
output lines. -/

namespace Sys2Proof.Machine

/-! ### Outcomes -/

/-- An event at the part. While RESET_N is asserted every block holds its power-on values and every
write is ignored (R186), so the event changes nothing. -/
def live (s : State) (f : State → State) : Host.Outcome State Fault Refusal :=
  .next (if s.resetAsserted then s else f s)

/-! ### Notices -/

/-- The notice queue has room (R131). -/
def ReportUnit.hasRoom (u : ReportUnit) : Bool := decide (u.notices.length < Config.noticeSlots)

/-- A notice offered to the queue: it joins the tail, or is lost and counted (R131, R133). -/
def ReportUnit.offer (u : ReportUnit) (n : Notice) : ReportUnit :=
  if u.hasRoom then { u with notices := u.notices ++ [n] }
  else { u with noticeLoss := satInc u.noticeLoss }

/-- A block offers a notice; its time is the integer as it stands (R135). A lost notice sets
NOTICE_LOSS (R133). -/
def offer (b : NoticeBody) (s : State) : State :=
  { s with
    report := s.report.offer { time := s.timebase.integer, body := b }
    irq := if s.report.hasRoom then s.irq else s.irq.set .noticeLoss }

/-- A notice offered where a condition holds. -/
def offerIf (c : Bool) (b : NoticeBody) (s : State) : State := if c then offer b s else s

/-- Several notices, offered one after another (R132). -/
def offerAll : List NoticeBody → State → State
  | [], s => s
  | b :: rest, s => offerAll rest (offer b s)

/-! ### The action table -/

/-- Is the entry a TRAIL entry (R33)? -/
def Entry.isTrail (e : Entry) : Bool := e.action == .trail

/-- Is the action a PULSE? -/
def Action.isPulse : Action → Bool
  | .pulse _ => true
  | _ => false

/-- The number of reservations held by the entries of a list (R37). -/
def reservationsOf (es : List Entry) : Nat := es.countP (·.reserved)

/-- Occupancy: entries plus outstanding reservations (R37). -/
def occupancyOf (es : List Entry) : Nat := es.length + reservationsOf es

/-- Free slots: 256 minus occupancy (R37). -/
def freeSlotsOf (es : List Entry) : Nat := Config.tableSlots - occupancyOf es

/-- An entry placed after every entry due at or before its own due and before every later one
(R40; re-insertion R41; TRAIL creation R42). -/
def insertEntry (e : Entry) : List Entry → List Entry
  | [] => [e]
  | x :: rest => if x.due.toNat ≤ e.due.toNat then x :: insertEntry e rest else e :: x :: rest

/-- The first element with a property, and the list without it. -/
def splitFirst {α : Type} (p : α → Bool) : List α → Option (α × List α)
  | [] => none
  | x :: rest =>
    if p x then some (x, rest)
    else
      match splitFirst p rest with
      | none => none
      | some (y, others) => some (y, x :: others)

/-- The due at the head, 2^56-1 where the table is empty (R57). -/
def headDue (es : List Entry) : Time :=
  match es with
  | [] => BitVec.allOnes 56
  | e :: _ => e.due

/-- At the end of a claim that leaves occupancy lower than `before`, the occupancy-fall signal (R38):
a HELD engine makes a retry claim, unless one is outstanding (R162). -/
def signalFall (before : Nat) (s : State) : State :=
  if occupancyOf s.table.entries < before ∧ s.aring.state = .held then
    { s with aring := { s.aring with retry := true } }
  else s

/-- The table with other entries. -/
def State.withEntries (s : State) (es : List Entry) : State :=
  { s with table := { s.table with entries := es } }

/-! ### Validation and admission (R29, R30) -/

/-- Slots needed at admission: two for a PULSE, one for any other kind (R28). -/
def slotsNeeded (a : Action) : Nat := if a.isPulse then 2 else 1

/-- The entry of a candidate that has passed every check (R30): its serial, its remaining (R26) and,
for a PULSE, its reservation (R28). -/
def Candidate.entry (c : Candidate) (f : CheckedFields) (due : Time) (serial : BitVec 32) : Entry :=
  { action := f.action, lines := f.lines, due := due, tag := c.fields.tag, late := c.fields.late,
    report := f.report, rep := repeatOf c.rep, serial := serial, reserved := f.action.isPulse }

/-- The due of a candidate claimed at `base`: its own, or base plus offset (R20). -/
def Candidate.dueAt (c : Candidate) (base : Time) : Option Time :=
  if c.relative then dueAfter base c.time.toNat else some c.time

/-- Checks 1 to 6 of R29 in order, with the base, the free slots and the serial counter as they
stand when the claim is taken: the entry, or the reason of the first failed check. -/
def Candidate.validate (c : Candidate) (base : Time) (free : Nat) (serial : BitVec 32) :
    Except ResultCode Entry :=
  match c.fields.check with
  | .error r => .error r
  | .ok f =>
    if repeatFits f.action c.rep then
      match c.dueAt base with
      | none => .error .badTime
      | some due =>
        if slotsNeeded f.action ≤ free then .ok (c.entry f due serial) else .error .tableFull
    else .error .badRepeat

/-- Admission of a validated entry: it is placed by due and the serial counter increments (R27, R30,
R40). -/
def admitEntry (e : Entry) (s : State) : State :=
  { s with table :=
    { s.table with
      entries := insertEntry e s.table.entries
      serialNext := s.table.serialNext + 1 } }

/-- A candidate validated against the part as it stands (R29, R32). -/
def validateNow (c : Candidate) (s : State) : Except ResultCode Entry :=
  c.validate s.timebase.integer (freeSlotsOf s.table.entries) s.table.serialNext

/-! ### Answering a command (R173) -/

/-- What an owning block answers: a result code and two result values. -/
structure Answer where
  code : ResultCode
  value0 : Word
  value1 : Word
  deriving DecidableEq, Repr

/-- A refusal: both result values are 0 (R173, Table 9-2). -/
def Answer.refusal (r : ResultCode) : Answer := { code := r, value0 := 0, value1 := 0 }

/-- OK with both result values 0. -/
def Answer.done : Answer := { code := .ok, value0 := 0, value1 := 0 }

/-- The posting of a result for the command code `c` (R173). -/
def CommandPort.post (p : CommandPort) (c : BitVec 8) (a : Answer) : CommandPort :=
  { p with
    buffer := none
    result := a.code
    resultCommand := c
    value0 := a.value0
    value1 := a.value1
    completions := p.completions + 1 }

/-- The owner takes the command in the buffer, if it is `c`, with the buffered words, and the port
posts the answer (R172, R173). Where the buffer does not hold `c` there is nothing to take. -/
def takeCommand (c : Command) (owner : Words8 → State → State × Answer) (s : State) : State :=
  match s.port.buffer with
  | none => s
  | some i =>
    if i.command = c then
      let r := owner i.words s
      { r.1 with port := r.1.port.post c.code r.2 }
    else s

/-! ### Entering STOPPED (R64) -/

/-- The sequencer enters STOPPED from RUNNING or SINGLE: the cause is written, a SEQ_STOPPED notice
is queued and the SEQ_STOP cause is set (R64). -/
def stopSequencer (cause : StopCause) (s : State) : State :=
  raise .seqStop (offer (.seqStopped cause)
    { s with seq := { s.seq with state := .stopped, stopCause := cause } })

/-! ### The two rings (R142, R153) -/

/-- The index after `i` (R140, R155). -/
def Ring.after (r : Ring) (i : Nat) : Nat := (i + 1) % r.size

/-- The byte address of slot `i`, modulo 2^32 (R138, R157). -/
def Ring.address (r : Ring) (i : Nat) : Word := r.base + BitVec.ofNat 32 (32 * i)

/-- A base written: bits 31:6 are stored (R142, R153, R196). -/
def Ring.setBase (r : Ring) (v : Word) : Ring := { r with base := v &&& 0xFFFFFFC0#32 }

/-- The ignored-write flag set (R142, R153). -/
def Ring.ignore (r : Ring) : Ring := { r with ignoredWrite := true }

/-- The enable-refused flag set (R144, R156). -/
def Ring.refuse (r : Ring) : Ring := { r with enableRefused := true }

/-- A size written: one of the nine is taken and both indices return to 0; any other value is
ignored (R142, R153, R196). -/
def Ring.setSize (r : Ring) (v : Word) : Ring :=
  if v.toNat ∈ Config.ringSizes then { r with size := v.toNat, prod := 0, cons := 0 }
  else r.ignore

/-- A producer index written: the whole value modulo size (R142, R154, R196). -/
def Ring.setProd (r : Ring) (v : Word) : Ring := { r with prod := v.toNat % r.size }

/-- A consumer index written: the whole value modulo size (R143, R153, R196). -/
def Ring.setCons (r : Ring) (v : Word) : Ring := { r with cons := v.toNat % r.size }

/-! ### Levels of the output lines -/

/-- The lines in PATTERN mode: those whose generator runs (R85). -/
def LineUnit.patternMask (l : LineUnit) : LineMask :=
  BitVec.ofFnLE fun n : Fin 16 => l.gens[n].running

/-- The level of a running generator at the integer `x`: 1 while `x` is below the current period
start plus the high time (R100). -/
def Generator.levelAt (g : Generator) (x : Time) : Bool :=
  decide ((x.toNat - g.start.toNat) % g.active.period.toNat < g.active.high.toNat)

/-- The logical level of every line: the generator's for a PATTERN line, the stored one for a STATIC
line (R85). -/
def LineUnit.levels (l : LineUnit) (x : Time) : LineMask :=
  (l.level &&& ~~~ l.patternMask) |||
    BitVec.ofFnLE fun n : Fin 16 => l.gens[n].running && l.gens[n].levelAt x

/-- The logical levels now. -/
def State.levels (s : State) : LineMask := s.lines.levels s.timebase.integer

/-- The pin levels: through the polarity while the gate is OPEN, the safe levels while it is CLOSED,
and 0 while RESET_N is asserted (R83). -/
def State.pins (s : State) : LineMask :=
  if s.resetAsserted then 0
  else if s.lines.gateOpen then s.levels ^^^ s.lines.polarity
  else s.lines.safe

end Sys2Proof.Machine
end

