-- ==== Sys2Proof/Machine/Timebase.lean ====
section
/-! DEFINITION. The timebase unit (Chapter 1): the advance, TIME_SET, TIME_STEP, TRIM_SET, and the
read of TIME_LO. -/

namespace Sys2Proof.Machine

/-- The integer is saturated (R3). -/
def Timebase.saturated (t : Timebase) : Bool := t.integer.toNat == Config.maxTime

/-- Moving from `v` to `w` crosses an epoch boundary: a multiple of 2^20 lies above `v` and at or
below `w` (R4). -/
def crossesEpoch (v w : Time) : Bool :=
  decide (v.toNat / Config.epoch < w.toNat / Config.epoch)

/-- The move of the integer from `old` crosses an epoch boundary with a pending trim that differs from
the active one (R5). -/
def Timebase.changesTrim (old : Time) (t : Timebase) : Bool :=
  crossesEpoch old t.integer && t.trimPending != t.trimActive

/-- What a move of the integer from `old` does at an epoch boundary: a pending trim that differs
becomes active and is announced (R5). -/
def crossEpoch (old : Time) (s : State) : State :=
  if s.timebase.changesTrim old then
    offer (.trimApplied s.timebase.trimPending)
      { s with timebase := { s.timebase with trimActive := s.timebase.trimPending } }
  else s

/-- The integer placed at `v`, a number up to 2^56-1, with the fraction `f`. On reaching 2^56-1 the
fraction is 0 and TIME_LIMIT is set (R3; after a step, log entry 25). The adder then runs again only from the
TCLK period after a TIME_SET, so no trim of before a step stays held (R3, R5). -/
def placeInteger (v : Nat) (f : BitVec 24) (s : State) : State :=
  { s with
    timebase := { s.timebase with
      integer := BitVec.ofNat 56 v
      fraction := if v = Config.maxTime then 0 else f
      heldTrim := if v = Config.maxTime then none else s.timebase.heldTrim }
    irq := if v = Config.maxTime then s.irq.set .timeLimit else s.irq }

/-- The trim the adder uses in this TCLK period: the active trim, or the one of before a step of the
period that made another active (R2, R5, R7; log entry 29). -/
def Timebase.adderTrim (t : Timebase) : Trim := t.heldTrim.getD t.trimActive

/-- The sum the adder forms: the fraction, 2^24 and the trim (R2). -/
def Timebase.adderSum (t : Timebase) : Int :=
  (t.fraction.toNat : Int) + Config.tickUnits + t.adderTrim.toInt

/-- The TCLK period ends: from the next one on the adder uses the active trim (R5). -/
def endPeriod (s : State) : State := { s with timebase := { s.timebase with heldTrim := none } }

/-- The advance of one TCLK period, unless saturated; an increase to or beyond 2^56-1 stops there
(R2, R3). -/
def advance (s : State) : State :=
  if s.timebase.saturated then s
  else
    let sum := s.timebase.adderSum
    let target := s.timebase.integer.toNat + (sum / Config.tickUnits).toNat
    crossEpoch s.timebase.integer
      (placeInteger (min target Config.maxTime)
        (BitVec.ofNat 24 (sum % Config.tickUnits).toNat) (endPeriod s))

/-- TIMEBASE_ADVANCE (R2). -/
def execTimebaseAdvance (s : State) : Host.Outcome State Fault Refusal := live s advance

/-- The first period start at or after `x` on the grid from `start` with `period` (R106). -/
def gridFrom (start period x : Nat) : Nat := start + (x - start + (period - 1)) / period * period

/-- A generator met by a step to the integer `x`: the period starts passed over are not visited, and
the next event is the first period start at or after `x` (R106; log entry 9). -/
def Generator.overtaken (g : Generator) (x : Nat) : Generator :=
  if g.running ∧ g.nextStart < x then
    { g with nextStart := gridFrom g.start.toNat g.active.period.toNat x }
  else g

/-- The line unit met by a step to the integer `x` (R106). -/
def LineUnit.overtaken (l : LineUnit) (x : Nat) : LineUnit :=
  { l with gens := Vector.ofFn fun n : Fin 16 => l.gens[n].overtaken x }

/-- The two words of a time as result values. -/
def timeAnswer (t : Time) : Answer :=
  { code := .ok, value0 := t.low, value1 := highWord t.high }

/-- The trim of before a step from `old` that makes another active is held for the next advance where the
step is taken in that advance's TCLK period, which is a free value; a trim that an earlier step of the
period holds stays. A step that saturates has no advance in its TCLK period and holds nothing (R3, R5, R7; log
entry 29). -/
def holdTrim (old : Time) (s : State) : State :=
  if s.timebase.changesTrim old && !s.timebase.saturated then
    { s with
      timebase := { s.timebase with
        heldTrim := s.timebase.heldTrim.or
          (if Config.stepSharesPeriod s.periodDraws then some s.timebase.trimActive else none) }
      periodDraws := s.periodDraws + 1 }
  else s

/-- TIME_STEP at the timebase unit (R7). -/
def timeStepOwner (w : Words8) (s : State) : State × Answer :=
  let d := wideArgument w
  let target := s.timebase.integer.toNat + d
  if d = 0 ∨ Config.maxStep < d then (s, .refusal .badParam)
  else if Config.maxTime < target then (s, .refusal .badTime)
  else
    let old := s.timebase.integer
    let moved := crossEpoch old (holdTrim old (placeInteger target s.timebase.fraction s))
    ({ moved with lines := moved.lines.overtaken target }, timeAnswer (BitVec.ofNat 56 target))

/-- TIME_STEP (R7). -/
def execTimeStep (s : State) : Host.Outcome State Fault Refusal :=
  live s (takeCommand .timeStep timeStepOwner)

/-- TIME_SET at the timebase unit: the four checks of R9 in order, then R10. A set to 2^56-1 while
already saturated changes nothing (R3; log entry 24). -/
def timeSetOwner (w : Words8) (s : State) : State × Answer :=
  let v := wideArgument w
  if Config.maxTime < v then (s, .refusal .badTime)
  else if s.seq.state ≠ .stopped then (s, .refusal .state)
  else if s.table.entries.any Entry.isTrail then (s, .refusal .pulsePending)
  else if s.lines.patternMask ≠ 0 then (s, .refusal .linesBusy)
  else
    (if s.timebase.saturated ∧ v = Config.maxTime then s else placeInteger v 0 s,
      timeAnswer (BitVec.ofNat 56 v))

/-- TIME_SET (R9, R10). -/
def execTimeSet (s : State) : Host.Outcome State Fault Refusal :=
  live s (takeCommand .timeSet timeSetOwner)

/-- TRIM_SET at the timebase unit (R6). -/
def trimSetOwner (w : Words8) (s : State) : State × Answer :=
  if -32768 ≤ w[0].toInt ∧ w[0].toInt ≤ 32767 then
    let trim : Trim := w[0].setWidth 16
    ({ s with timebase := { s.timebase with trimPending := trim } },
      { code := .ok, value0 := s.timebase.trimActive.signExtend 32, value1 := trim.signExtend 32 })
  else (s, .refusal .badParam)

/-- TRIM_SET (R6). -/
def execTrimSet (s : State) : Host.Outcome State Fault Refusal :=
  live s (takeCommand .trimSet trimSetOwner)

/-- A read of TIME_LO: the low word is returned and the upper 24 bits go into the snapshot hold
(R11, R12). -/
def readTimeLo (s : State) : State :=
  { s with
    timebase := { s.timebase with snapshotHold := s.timebase.integer.high }
    bus := { s.bus with readData := s.timebase.integer.low } }

/-- While RESET_N is asserted a read returns 0 and does nothing else (R186). -/
def readInReset (s : State) : State := { s with bus := { s.bus with readData := 0 } }

/-- TIME_LO_READ (R11). -/
def execTimeLoRead (s : State) : Host.Outcome State Fault Refusal :=
  .next (if s.resetAsserted then readInReset s else readTimeLo s)

end Sys2Proof.Machine
end

