-- ==== Sys2Proof/Machine/Table.lean ====
section
/-! DEFINITION. The table controller's own commands (Chapter 3): ADMIT, CANCEL_TAG, CANCEL_LINES,
FLUSH, QUERY_TAG; the fault claim; the read of HEAD_DUE_LO. -/

namespace Sys2Proof.Machine

/-- A number as a result value. -/
def countWord (n : Nat) : Word := BitVec.ofNat 32 n

/-- ADMIT at the table controller (R49). -/
def admitOwner (w : Words8) (s : State) : State × Answer :=
  match validateNow (Candidate.ofWords w) s with
  | .error r => (s, .refusal r)
  | .ok e => (admitEntry e s, { code := .ok, value0 := e.serial, value1 := e.due.low })

/-- ADMIT (R49). -/
def execAdmit (s : State) : Host.Outcome State Fault Refusal :=
  live s (takeCommand .admitCandidate admitOwner)

/-- A claim that keeps the entries with a property and removes the others, answering how many entries
and how many reservations went (R50, R54), with the occupancy-fall signal (R38). -/
def removeEntries (keep : Entry → Bool) (s : State) : State × Answer :=
  let old := s.table.entries
  let kept := old.filter keep
  (signalFall (occupancyOf old) (s.withEntries kept),
    { code := .ok
      value0 := countWord (old.length - kept.length)
      value1 := countWord (reservationsOf old - reservationsOf kept) })

/-- The tag argument: bits 15:0 of word 0 (R50, R55). -/
def tagArgument (w : Words8) : BitVec 16 := w[0].extractLsb' 0 16

/-- CANCEL_TAG at the table controller (R50). -/
def cancelTagOwner (w : Words8) (s : State) : State × Answer :=
  removeEntries (fun e => e.isTrail || e.tag != tagArgument w) s

/-- CANCEL_TAG (R50). -/
def execCancelTag (s : State) : Host.Outcome State Fault Refusal :=
  live s (takeCommand .cancelTag cancelTagOwner)

/-- FLUSH at the table controller (R54). -/
def flushOwner (_w : Words8) (s : State) : State × Answer := removeEntries Entry.isTrail s

/-- FLUSH (R54). -/
def execFlush (s : State) : Host.Outcome State Fault Refusal :=
  live s (takeCommand .flush flushOwner)

/-- Entries CANCEL_LINES passes over: TRAIL and MARK (R52). -/
def Entry.keepsLines (e : Entry) : Bool := e.isTrail || e.action == .mark

/-- The entry after the lines of `m` are removed from its set, where CANCEL_LINES visits it (R52). -/
def Entry.narrow (m : LineMask) (e : Entry) : Entry :=
  if e.keepsLines then e else { e with lines := e.lines &&& ~~~ m }

/-- Does CANCEL_LINES leave the entry without lines (R52)? -/
def Entry.emptiedBy (m : LineMask) (e : Entry) : Bool :=
  !e.keepsLines && e.lines &&& ~~~ m == 0

/-- Does CANCEL_LINES narrow the entry: it loses a line and keeps one (R52)? -/
def Entry.narrowedBy (m : LineMask) (e : Entry) : Bool :=
  !e.keepsLines && e.lines &&& ~~~ m != 0 && e.lines &&& m != 0

/-- The mask argument: bits 15:0 of a word (R195). -/
def maskArgument (v : Word) : LineMask := v.extractLsb' 0 16

/-- CANCEL_LINES at the table controller (R52). -/
def cancelLinesOwner (w : Words8) (s : State) : State × Answer :=
  let m := maskArgument w[0]
  let old := s.table.entries
  if m = 0 then (s, .refusal .noLines)
  else
    (signalFall (occupancyOf old)
        (s.withEntries ((old.filter fun e => !e.emptiedBy m).map (Entry.narrow m))),
      { code := .ok
        value0 := countWord (old.countP (Entry.emptiedBy m))
        value1 := countWord (old.countP (Entry.narrowedBy m)) })

/-- CANCEL_LINES (R52). -/
def execCancelLines (s : State) : Host.Outcome State Fault Refusal :=
  live s (takeCommand .cancelLines cancelLinesOwner)

/-- The earliest due of a list of entries, 2^56-1 for none (R55). -/
def earliestDue : List Entry → Time
  | [] => BitVec.allOnes 56
  | e :: rest =>
    if e.due.toNat ≤ (earliestDue rest).toNat then e.due else earliestDue rest

/-- QUERY_TAG at the table controller (R55). -/
def queryTagOwner (w : Words8) (s : State) : State × Answer :=
  let found := s.table.entries.filter fun e => e.tag == tagArgument w
  let due := earliestDue found
  ({ s with table := { s.table with queryHold := due.high } },
    { code := .ok, value0 := countWord found.length, value1 := due.low })

/-- QUERY_TAG (R55). -/
def execQueryTag (s : State) : Host.Outcome State Fault Refusal :=
  live s (takeCommand .queryTag queryTagOwner)

/-- The line unit's fault claim, where one is outstanding: every TRAIL entry is removed, with the
occupancy-fall signal when there was one (R47). -/
def faultClaim (s : State) : State :=
  if s.lines.faultClaims = 0 then s
  else
    let taken := { s with lines := { s.lines with faultClaims := s.lines.faultClaims - 1 } }
    signalFall (occupancyOf s.table.entries)
      (taken.withEntries (s.table.entries.filter fun e => !e.isTrail))

/-- FAULT_CLAIM (R47). -/
def execFaultClaim (s : State) : Host.Outcome State Fault Refusal := live s faultClaim

/-- A read of HEAD_DUE_LO: the low word of the head's due is returned and its upper 24 bits go into
the head hold (R57). -/
def readHeadDueLo (s : State) : State :=
  let due := headDue s.table.entries
  { s with
    table := { s.table with headHold := due.high }
    bus := { s.bus with readData := due.low } }

/-- HEAD_DUE_LO_READ (R57). -/
def execHeadDueLoRead (s : State) : Host.Outcome State Fault Refusal :=
  .next (if s.resetAsserted then readInReset s else readHeadDueLo s)

end Sys2Proof.Machine
end

