-- ==== Sys2Proof/Machine/Lines.lean ====
section
/-! DEFINITION. The line unit (Chapter 5): generators, the line effect of a firing, period start
events, the fault input, and the line unit's own commands and registers. -/

namespace Sys2Proof.Machine

/-! ### One generator -/

/-- A generator stopped: its active pair takes the shadow pair, and nothing is pending (R96). -/
def Generator.stopped (g : Generator) : Generator :=
  { g with running := false, active := g.shadow, reloadPending := false, pendingStop := none }

/-- PATTERN_LOAD at a generator (R99). -/
def Generator.load (p : Pair) (g : Generator) : Generator :=
  if g.running then { g with shadow := p, reloadPending := true }
  else { g with shadow := p, active := p }

/-- The first period start strictly after the integer `x`, on the grid from `start` (R97, R101; log
entry 8). -/
def nextStartAfter (start period x : Nat) : Nat := start + ((x - start) / period + 1) * period

/-- PATTERN_START at a generator: it starts, or restarts, with the due taken as its start time (R97,
R98). A stopped generator's active pair follows its shadow pair, so the shadow pair is taken in both. -/
def Generator.startAt (due now : Time) (g : Generator) : Generator :=
  { running := true, active := g.shadow, shadow := g.shadow, start := due
    nextStart := nextStartAfter due.toNat g.shadow.period.toNat now.toNat
    reloadPending := false, pendingStop := none }

/-- PATTERN_STOP AT_BOUNDARY at a generator: a running one records the stop, replacing one already
pending (R102, R104). -/
def Generator.stopLater (final : Bool) (g : Generator) : Generator :=
  if g.running then { g with pendingStop := some final } else g

/-- A period start event with no stop pending: the reload, or a plain start (R101). -/
def Generator.beginPeriod (g : Generator) : Generator :=
  if g.reloadPending then
    { g with
      active := g.shadow
      reloadPending := false
      start := BitVec.ofNat 56 g.nextStart
      nextStart := g.nextStart + g.shadow.period.toNat }
  else { g with nextStart := g.nextStart + g.active.period.toNat }

/-! ### All generators -/

/-- The line unit with `f` applied to the generators of the lines in `m`. -/
def LineUnit.onGens (l : LineUnit) (m : LineMask) (f : Generator → Generator) : LineUnit :=
  { l with gens := Vector.ofFn fun n : Fin 16 => if m.getLsbD n then f l.gens[n] else l.gens[n] }

/-- The lines of `m` given the levels of `v`. -/
def writeLevels (level m v : LineMask) : LineMask := (level &&& ~~~ m) ||| (v &&& m)

/-- The lines of a mask, OUT0 upward. -/
def linesOf (m : LineMask) : List (Fin 16) :=
  (List.finRange 16).filter fun n => m.getLsbD n

/-! ### Line effects (R72, R94, R95, R97 to R104) -/

/-- What the line unit does with a firing and answers: its new state, the refused and raised masks,
and the PATTERN_STOPPED notices. -/
structure Effect where
  lines : LineUnit
  refused : LineMask
  raised : LineMask
  notices : List NoticeBody

/-- A firing of a kind that refuses PATTERN lines, giving the STATIC lines of `m` the levels `v`
(R94, R95). -/
def LineUnit.drive (l : LineUnit) (m v : LineMask) : Effect :=
  { lines := { l with level := writeLevels l.level (m &&& ~~~ l.patternMask) v }
    refused := m &&& l.patternMask, raised := 0, notices := [] }

/-- A firing of a pattern kind: it refuses no line (R97, R99, R102). -/
def LineUnit.pattern (l : LineUnit) (notices : List NoticeBody) : Effect :=
  { lines := l, refused := 0, raised := 0, notices := notices }

/-- PATTERN_STOP NOW on the lines `m`: each PATTERN line becomes STATIC at the final level, with one
notice a line, OUT0 upward (R102, R103). -/
def LineUnit.stopNow (l : LineUnit) (m : LineMask) (final : Bool) : Effect :=
  let hit := m &&& l.patternMask
  let v : LineMask := if final then hit else 0
  ({ l.onGens hit Generator.stopped with level := writeLevels l.level hit v }).pattern
    ((linesOf hit).map fun n => .patternStopped n final .now)

/-- The line effect of a firing of `a` on the lines `m`, due at `due`, taken at `now` (R72). -/
def LineUnit.fire (l : LineUnit) (a : Action) (m : LineMask) (due now : Time) : Effect :=
  match a with
  | .set => l.drive m m
  | .clear => l.drive m 0
  | .toggle => l.drive m (~~~ l.level)
  | .pulse _ => { l.drive m m with raised := m &&& ~~~ l.patternMask }
  | .trail => l.drive m 0
  | .patternLoad p => (l.onGens m (Generator.load p)).pattern []
  | .patternStart => (l.onGens m (Generator.startAt due now)).pattern []
  | .patternStop .now final => l.stopNow m final
  | .patternStop .atBoundary final => (l.onGens m (Generator.stopLater final)).pattern []
  | .mark => l.pattern []

/-! ### Period start events (R101, R105) -/

/-- The boundary stop of generator `n` (R105). -/
def boundaryStop (n : Fin 16) (final : Bool) (s : State) : State :=
  offer (.patternStopped n final .atBoundary)
    { s with lines :=
      { s.lines.onGens (lineBit n) Generator.stopped with level := setLine s.lines.level n final } }

/-- A period start event of generator `n`: it occurs where the generator runs and the integer has
reached its next period start (R101; log entry 1). -/
def periodStart (n : Fin 16) (s : State) : State :=
  let g := s.lines.gens[n]
  if g.running ∧ g.nextStart ≤ s.timebase.integer.toNat then
    match g.pendingStop with
    | some final => boundaryStop n final s
    | none => { s with lines := s.lines.onGens (lineBit n) Generator.beginPeriod }
  else s

/-- PERIOD_START_EVENT (R101). -/
def execPeriodStartEvent (n : Fin 16) (s : State) : Host.Outcome State Fault Refusal :=
  live s (periodStart n)

/-! ### The fault input (R88, R89) -/

/-- The logical levels that give the safe pin levels through the polarities (R89). -/
def LineUnit.safeLevels (l : LineUnit) : LineMask := l.safe ^^^ l.polarity

/-- The line actions of a fault, and the two events it gives to other blocks (R88, R89). -/
def LineUnit.latchFault (l : LineUnit) : LineUnit :=
  { l.onGens l.patternMask Generator.stopped with
    level := l.safeLevels
    gateOpen := false
    faultLatch := true
    faultEvents := l.faultEvents + 1
    faultClaims := l.faultClaims + 1 }

/-- A sample of FAULT_N whose synchronised level is `asserted`: a fault is latched when it is seen
asserted with the enable on and the latch clear (R88). -/
def sampleFaultN (asserted : Bool) (s : State) : State :=
  let seen := { s.lines with faultSeen := asserted }
  if asserted ∧ s.lines.faultEnable ∧ ¬ s.lines.faultLatch then
    raise .fault { s with lines := seen.latchFault }
  else { s with lines := seen }

/-- FAULT_LATCH: FAULT_N is seen asserted (R88). -/
def execFaultLatch (s : State) : Host.Outcome State Fault Refusal := live s (sampleFaultN true)

/-- FAULT_N_SEEN_CHANGE: the synchronised level changes (R88). -/
def execFaultNSeenChange (asserted : Bool) (s : State) : Host.Outcome State Fault Refusal :=
  live s (sampleFaultN asserted)

/-! ### Commands -/

/-- GATE_OPEN at the line unit (R86). -/
def gateOpenOwner (_w : Words8) (s : State) : State × Answer :=
  if s.lines.faultLatch ∨ (s.lines.faultEnable ∧ s.lines.faultSeen) then (s, .refusal .faultActive)
  else ({ s with lines := { s.lines with gateOpen := true } }, .done)

/-- GATE_OPEN (R86). -/
def execGateOpen (s : State) : Host.Outcome State Fault Refusal :=
  live s (takeCommand .gateOpen gateOpenOwner)

/-- GATE_CLOSE at the line unit (R87). -/
def gateCloseOwner (_w : Words8) (s : State) : State × Answer :=
  ({ s with lines := { s.lines with gateOpen := false } }, .done)

/-- GATE_CLOSE (R87). -/
def execGateClose (s : State) : Host.Outcome State Fault Refusal :=
  live s (takeCommand .gateClose gateCloseOwner)

/-- FAULT_CLEAR at the line unit (R91). -/
def faultClearOwner (_w : Words8) (s : State) : State × Answer :=
  if s.lines.faultSeen then (s, .refusal .faultActive)
  else ({ s with lines := { s.lines with faultLatch := false } }, .done)

/-- FAULT_CLEAR (R91). -/
def execFaultClear (s : State) : Host.Outcome State Fault Refusal :=
  live s (takeCommand .faultClear faultClearOwner)

/-- A mask in a word (R195). -/
def maskWord (m : LineMask) : Word := m.setWidth 32

/-- LINE_WRITE at the line unit (R92). -/
def lineWriteOwner (w : Words8) (s : State) : State × Answer :=
  let m := maskArgument w[0]
  if m = 0 then (s, .refusal .noLines)
  else
    let e := s.lines.drive m (maskArgument w[1])
    let after := { s with lines := e.lines }
    (after, { code := .ok, value0 := maskWord e.refused, value1 := maskWord after.levels })

/-- LINE_WRITE (R92). -/
def execLineWrite (s : State) : Host.Outcome State Fault Refusal :=
  live s (takeCommand .lineWrite lineWriteOwner)

/-! ### Registers -/

/-- A full-word write of OUT_POLARITY (R84). -/
def writePolarity (v : Word) (s : State) : State :=
  { s with lines := { s.lines with polarity := maskArgument v } }

/-- OUT_POLARITY_WRITE (R84). -/
def execOutPolarityWrite (v : Word) (s : State) : Host.Outcome State Fault Refusal :=
  live s (writePolarity v)

/-- A full-word write of OUT_SAFE (R84). -/
def writeSafe (v : Word) (s : State) : State :=
  { s with lines := { s.lines with safe := maskArgument v } }

/-- OUT_SAFE_WRITE (R84). -/
def execOutSafeWrite (v : Word) (s : State) : Host.Outcome State Fault Refusal :=
  live s (writeSafe v)

/-- A full-word write of FAULT_CONFIG: bit 0 is the fault input enable. The fault itself is latched at
the next sample (R88). -/
def writeFaultConfig (v : Word) (s : State) : State :=
  { s with lines := { s.lines with faultEnable := v.getLsbD 0 } }

/-- FAULT_CONFIG_WRITE (R88). -/
def execFaultConfigWrite (v : Word) (s : State) : Host.Outcome State Fault Refusal :=
  live s (writeFaultConfig v)

end Sys2Proof.Machine
end

