-- ==== Sys2Proof/Machine/Sequencer.lean ====
section
/-! DEFINITION. The sequencer (Chapter 4): SEQ_RUN, SEQ_SINGLE, SEQ_STOP, the fault event, and the
taking of an entry with everything that comes about inside it. -/

namespace Sys2Proof.Machine

/-! ### Commands (R61 to R63) -/

/-- The shared checks of SEQ_RUN and SEQ_SINGLE, then the new state (R61, R62). -/
def startSequencer (entered : SeqState) (s : State) : State × Answer :=
  if s.seq.state ≠ .stopped then (s, .refusal .state)
  else if s.lines.faultLatch then (s, .refusal .faultActive)
  else ({ s with seq := { s.seq with state := entered } }, .done)

/-- SEQ_RUN at the sequencer (R61). -/
def seqRunOwner (_w : Words8) (s : State) : State × Answer := startSequencer .running s

/-- SEQ_RUN (R61). -/
def execSeqRun (s : State) : Host.Outcome State Fault Refusal :=
  live s (takeCommand .seqRun seqRunOwner)

/-- SEQ_SINGLE at the sequencer (R62). -/
def seqSingleOwner (_w : Words8) (s : State) : State × Answer := startSequencer .single s

/-- SEQ_SINGLE (R62). -/
def execSeqSingle (s : State) : Host.Outcome State Fault Refusal :=
  live s (takeCommand .seqSingle seqSingleOwner)

/-- SEQ_STOP at the sequencer (R63). -/
def seqStopOwner (_w : Words8) (s : State) : State × Answer :=
  (if s.seq.state = .stopped then s else stopSequencer .command s, .done)

/-- SEQ_STOP (R63). -/
def execSeqStop (s : State) : Host.Outcome State Fault Refusal :=
  live s (takeCommand .seqStop seqStopOwner)

/-- The fault event at the sequencer, where one has been given and not yet taken (R80). -/
def seqFaultEvent (s : State) : State :=
  if s.lines.faultEvents = 0 then s
  else
    let taken := { s with lines := { s.lines with faultEvents := s.lines.faultEvents - 1 } }
    if s.seq.state = .stopped then taken else stopSequencer .fault taken

/-- SEQ_FAULT_EVENT (R80). -/
def execSeqFaultEvent (s : State) : Host.Outcome State Fault Refusal := live s seqFaultEvent

/-! ### Which entry is taken (R65) -/

/-- The entry's due is at or before the integer `now`. -/
def Entry.isDue (now : Time) (e : Entry) : Bool := decide (e.due.toNat ≤ now.toNat)

/-- The entry the next taking claim names, and the rest of the table: the head in RUNNING and SINGLE,
the earliest TRAIL entry in STOPPED, each only once its due has come (R45, R65). -/
def selectEntry (s : State) : Option (Entry × List Entry) :=
  match s.seq.state with
  | .stopped => splitFirst (fun e => e.isTrail && e.isDue s.timebase.integer) s.table.entries
  | .running | .single =>
    match s.table.entries with
    | [] => none
    | e :: rest => if e.isDue s.timebase.integer then some (e, rest) else none

/-! ### Lateness and repetition (R68, R70, R71) -/

/-- The lateness of an entry taken at `now` (R68). -/
def Entry.lateness (now : Time) (e : Entry) : Nat := now.toNat - e.due.toNat

/-- The entry is late: its lateness is above the margin (R68). -/
def Entry.isLate (now : Time) (margin : BitVec 16) (e : Entry) : Bool :=
  decide (margin.toNat < e.lateness now)

/-- The lateness a FIRED notice carries: 0 where it is not above the margin (R76). -/
def Entry.shownLateness (now : Time) (margin : BitVec 16) (e : Entry) : BitVec 24 :=
  if e.isLate now margin then shown (e.lateness now) else 0

/-- The skipped due times k of a taking with this lateness (R70). -/
def Repeat.skipped (r : Repeat) (late : Bool) (lateness : Nat) : Nat :=
  let k := if late then (lateness - 1) / r.interval.toNat else 0
  match r.remaining with
  | none => k
  | some m => min k (m.toNat - 1)

/-- How an entry goes on after a taking: k, the remaining after the decrease, and the next due with the
repeat it is re-inserted with; no next due is a final taking (R71). -/
structure Course where
  skipped : Nat
  remaining : BitVec 16
  again : Option (Time × Repeat)

/-- The course of an entry taken at `now` and judged `late` (R70, R71). -/
def Entry.course (e : Entry) (now : Time) (late : Bool) : Course :=
  match e.rep with
  | none => { skipped := 0, remaining := 0, again := none }
  | some r =>
    let k := r.skipped late (e.lateness now)
    let left := r.remaining.map fun m => m - BitVec.ofNat 16 (k + 1)
    let due := e.due.toNat + (k + 1) * r.interval.toNat
    { skipped := k
      remaining := left.getD 0
      again :=
        if left = some 0 ∨ Config.maxTime < due then none
        else some (BitVec.ofNat 56 due, { r with remaining := left }) }

/-- The entry at its next due, holding a reservation or not (R34, R41). -/
def Entry.moved (e : Entry) (due : Time) (r : Repeat) (reserved : Bool) : Entry :=
  { e with due := due, rep := some r, reserved := reserved }

/-! ### A drop (R69, R77) -/

/-- The table after a dropped taking: the entry retires, or is re-inserted with its reservation kept
(R45). -/
def droppedTable (e : Entry) (c : Course) (rest : List Entry) : List Entry :=
  match c.again with
  | none => rest
  | some (due, r) => insertEntry (e.moved due r e.reserved) rest

/-- The notice of a dropped taking (R77). -/
def droppedNotice (e : Entry) (c : Course) : DroppedNotice :=
  { final := c.again.isNone, serial := e.serial, tag := e.tag, due := e.due
    remaining := c.remaining, skipped := shown c.skipped }

/-- The taking drops the entry (R69). -/
def dropEntry (e : Entry) (c : Course) (rest : List Entry) (s : State) : State :=
  offer (.dropped (droppedNotice e c)) (raise .late (s.withEntries (droppedTable e c rest)))

/-! ### A firing (R72 to R76) -/

/-- The TRAIL entry of a leading firing that raised `raised` (R33, R73). -/
def Entry.trail (e : Entry) (width : BitVec 24) (raised : LineMask) : Entry :=
  { action := .trail, lines := raised
    due := BitVec.ofNat 56 (min (e.due.toNat + width.toNat) Config.maxTime)
    tag := e.tag, late := .fireLate, report := .none, rep := none, serial := e.serial
    reserved := false }

/-- The rest of the table with the TRAIL entry a firing makes: a PULSE that raised a line turns its
reservation into one (R42, R45, R73). -/
def withTrail (e : Entry) (raised : LineMask) (rest : List Entry) : List Entry :=
  match e.action with
  | .pulse width => if raised = 0 then rest else insertEntry (e.trail width raised) rest
  | _ => rest

/-- A repeating PULSE that does not retire by R71 finds no free slot for a fresh reservation: its own
slot still counts (R45, R46, R74). -/
def noRoom (e : Entry) (c : Course) (table : List Entry) : Bool :=
  e.action.isPulse && c.again.isSome && decide (Config.tableSlots ≤ occupancyOf table + 1)

/-- The table after a firing that left `table` beside the entry: the entry retires, or is re-inserted,
a PULSE with a fresh reservation (R46, R71, R74). -/
def firedTable (e : Entry) (c : Course) (table : List Entry) : List Entry :=
  match c.again with
  | none => table
  | some (due, r) =>
    if noRoom e c table then table else insertEntry (e.moved due r e.action.isPulse) table

/-- Is a FIRED notice queued for this firing (R76)? -/
def Entry.isReported (e : Entry) (late final noRoom : Bool) (refused : LineMask) : Bool :=
  late || refused != 0 || noRoom || e.report == .each || (e.report == .final && final)

/-- The remaining a FIRED notice shows. Only a counted entry that retires by overflow has some left at a
final taking other than NO_ROOM, and whether that shows as 0 is a free value (R71, R76; log entry 11). -/
def Course.shownRemaining (c : Course) : BitVec 16 :=
  if c.remaining = 0 ∨ c.again.isSome then c.remaining
  else if Config.overflowShowsZero then 0
  else c.remaining

/-- The notice of a firing of a non-TRAIL entry (R76). -/
def firedNotice (e : Entry) (c : Course) (now : Time) (margin : BitVec 16) (final noRoom : Bool)
    (refused : LineMask) : FiredNotice :=
  { late := e.isLate now margin, final := final, trail := false, noRoom := noRoom
    serial := e.serial, tag := e.tag, due := e.due, remaining := c.shownRemaining, refused := refused
    lateness := e.shownLateness now margin, skipped := shown c.skipped }

/-- The taking fires the entry: line effect, TRAIL creation, retirement or re-insertion, notices in
the order of R78, and LATE for a late taking (R69, R72 to R76). -/
def fireEntry (e : Entry) (c : Course) (rest : List Entry) (s : State) : State :=
  let now := s.timebase.integer
  let margin := s.timebase.lateMargin
  let late := e.isLate now margin
  let effect := s.lines.fire e.action e.lines e.due now
  let table := withTrail e effect.raised rest
  let full := noRoom e c table
  let final := c.again.isNone || full
  offerIf (e.isReported late final full effect.refused)
    (.fired (firedNotice e c now margin final full effect.refused))
    (raiseIf late .late
      (offerAll effect.notices
        ({ s with lines := effect.lines }.withEntries (firedTable e c table))))

/-- The notice of a TRAIL firing with refused lines (R76). -/
def trailNotice (e : Entry) (now : Time) (margin : BitVec 16) (refused : LineMask) : FiredNotice :=
  { late := false, final := false, trail := true, noRoom := false
    serial := e.serial, tag := e.tag, due := e.due, remaining := 0, refused := refused
    lateness := e.shownLateness now margin, skipped := 0 }

/-- The taking of a TRAIL entry: it fires whatever its lateness, and retires (R75). -/
def fireTrail (e : Entry) (rest : List Entry) (s : State) : State :=
  let effect := s.lines.fire .trail e.lines e.due s.timebase.integer
  offerIf (effect.refused != 0)
    (.fired (trailNotice e s.timebase.integer s.timebase.lateMargin effect.refused))
    ({ s with lines := effect.lines }.withEntries rest)

/-! ### The taking (R45, R65 to R79) -/

/-- The taking of a non-TRAIL entry: judged, then dropped or fired (R68, R69). -/
def takeWork (e : Entry) (rest : List Entry) (s : State) : State :=
  let late := e.isLate s.timebase.integer s.timebase.lateMargin
  let c := e.course s.timebase.integer late
  if late ∧ e.late = .dropLate then dropEntry e c rest s else fireEntry e c rest s

/-- The end of a SINGLE sequencer's taking of a non-TRAIL entry (R66). -/
def endSingle (trail : Bool) (s : State) : State :=
  if s.seq.state = .single ∧ trail = false then stopSequencer .single s else s

/-- The TABLE_EMPTY notice of a taking that leaves the table empty (R79). -/
def reportEmpty (s : State) : State :=
  offerIf (s.seq.emptyReport && s.table.entries.isEmpty) .tableEmpty s

/-- One taking claim, where an entry is to be taken (R45, R65, R78; log entry 1). -/
def taking (s : State) : State :=
  match selectEntry s with
  | none => s
  | some (e, rest) =>
    let taken := if e.isTrail then fireTrail e rest s else takeWork e rest s
    signalFall (occupancyOf s.table.entries) (endSingle e.isTrail (reportEmpty taken))

/-- TAKING (R45, R65). -/
def execTaking (s : State) : Host.Outcome State Fault Refusal := live s taking

end Sys2Proof.Machine
end

