-- ==== Sys2Proof/Machine/Capture.lean ====
section
/-! DEFINITION. The capture unit and the response unit (Chapter 6): edges, the capture log, response
templates, response claims, and the registers of an input line. -/

namespace Sys2Proof.Machine

/-! ### Parts of the state -/

/-- The state with input line `n` changed. -/
def onInput (n : Fin 8) (f : InputLine → InputLine) (s : State) : State :=
  { s with capture := { s.capture with inputs := s.capture.inputs.set n (f s.capture.inputs[n]) } }

/-- The state with template `n` changed. -/
def onTemplate (n : Fin 8) (f : Template → Template) (s : State) : State :=
  { s with response :=
    { s.response with templates := s.response.templates.set n (f s.response.templates[n]) } }

/-! ### Edges (R109, R112 to R118) -/

/-- The synchronised level an edge makes (R109). -/
def edgeLevel : Edge → Bool
  | .rise => true
  | .fall => false

/-- The edge select selects the edge (R112). -/
def EdgeSelect.selects : EdgeSelect → Edge → Bool
  | .rise, e => e == .rise
  | .fall, e => e == .fall
  | .both, _ => true

/-- The edge is examined (R112). -/
def InputLine.examines (l : InputLine) (e : Edge) : Bool := l.enable && l.select.selects e

/-- An examined edge at `t` is suppressed: it lies inside the holdoff window of the last accepted
timestamp (R113). -/
def InputLine.suppresses (l : InputLine) (t : Time) : Bool :=
  match l.lastAccepted with
  | none => false
  | some last =>
    decide (last.toNat ≤ t.toNat ∧ t.toNat - last.toNat < l.holdoff.toNat)

/-- The line after a suppressed edge (R114). -/
def InputLine.suppress (l : InputLine) : InputLine := { l with supp := satInc l.supp }

/-- The line after an accepted edge at `t` (R115). -/
def InputLine.accept (t : Time) (l : InputLine) : InputLine :=
  { l with seq := l.seq + 1, lastAccepted := some t, supp := 0 }

/-- The record of an edge accepted at `t` (R115). -/
def InputLine.record (l : InputLine) (n : Fin 8) (e : Edge) (t : Time) : CaptureRecord :=
  { line := n, edge := e, stamp := t, seq := l.seq + 1, supp := l.supp }

/-- A record offered to the capture log: it joins the tail, or is lost and counted, with CAPTURE_LOSS
(R116, R118). -/
def offerRecord (r : CaptureRecord) (s : State) : State :=
  if s.capture.log.length < Config.logSlots then
    { s with capture := { s.capture with log := s.capture.log ++ [r] } }
  else raise .captureLoss (onInput r.line (fun l => { l with lost := satInc l.lost }) s)

/-- An accepted edge at the response unit: an ARMED template makes a claim, and a ONE_SHOT one becomes
CLAIMING (R124). -/
def triggerTemplate (n : Fin 8) (t : Time) (s : State) : State :=
  let p := s.response.templates[n]
  match p.state with
  | .armed =>
    let claimed := if p.mode = .oneShot then onTemplate n (fun p => { p with state := .claiming }) s
      else s
    { claimed with response :=
      { claimed.response with
        claims := claimed.response.claims ++
          [{ line := n, fields := p.fields, delay := p.delay, stamp := t }] } }
  | .empty | .disarmed | .claiming => s

/-- An accepted edge (R115). -/
def acceptEdge (n : Fin 8) (e : Edge) (s : State) : State :=
  let t := s.timebase.integer
  triggerTemplate n t
    (offerRecord (s.capture.inputs[n].record n e t) (onInput n (InputLine.accept t) s))

/-- An edge on line `n`: the synchronised level takes its new value, and the edge is examined, then
suppressed or accepted. There is an edge only where a level has been taken and the new one differs
from it (R109, R112, R113; log entry 1). -/
def inputEdge (n : Fin 8) (e : Edge) (s : State) : State :=
  let l := s.capture.inputs[n]
  if l.sync = some (!edgeLevel e) then
    let seen := onInput n (fun l => { l with sync := some (edgeLevel e) }) s
    if l.examines e then
      if l.suppresses s.timebase.integer then onInput n InputLine.suppress seen
      else acceptEdge n e seen
    else seen
  else s

/-- INPUT_EDGE (R109, R113). -/
def execInputEdge (n : Fin 8) (edge : Edge) (s : State) : Host.Outcome State Fault Refusal :=
  live s (inputEdge n edge)

/-- The first synchronised level of line `n` after a reset, which is not an edge (R109; log entry 1). -/
def firstLevel (n : Fin 8) (level : Bool) (s : State) : State :=
  if s.capture.inputs[n].sync = none then onInput n (fun l => { l with sync := some level }) s else s

/-- FIRST_SYNCHRONISED_LEVEL (R109). -/
def execFirstSynchronisedLevel (n : Fin 8) (level : Bool) (s : State) :
    Host.Outcome State Fault Refusal :=
  live s (firstLevel n level)

/-! ### Response templates (R120 to R123) -/

/-- A claim of template `n` is outstanding (R120). -/
def ResponseUnit.outstanding (u : ResponseUnit) (n : Fin 8) : Bool := u.claims.any (·.line == n)

/-- A template number in a word, or none above 7 (R121 to R123). -/
def templateIndex (n : Nat) : Option (Fin 8) := if h : n < 8 then some ⟨n, h⟩ else none

/-- RESPONSE_LOAD at the response unit (R121, R198). -/
def responseLoadOwner (w : Words8) (s : State) : State × Answer :=
  match templateIndex (templateNumber w) with
  | none => (s, .refusal .badIndex)
  | some n =>
    match (RawFields.ofWords w).check with
    | .error r => (s, .refusal r)
    | .ok f =>
      (onTemplate n (fun _ => Template.loaded w f) s, .done)

/-- RESPONSE_LOAD (R121). -/
def execResponseLoad (s : State) : Host.Outcome State Fault Refusal :=
  live s (takeCommand .responseLoad responseLoadOwner)

/-- RESPONSE_ARM at the response unit (R122). -/
def responseArmOwner (w : Words8) (s : State) : State × Answer :=
  match templateIndex w[0].toNat with
  | none => (s, .refusal .badIndex)
  | some n =>
    if s.response.templates[n].state = .empty ∨ s.response.outstanding n then (s, .refusal .state)
    else (onTemplate n (fun p => { p with state := .armed }) s, .done)

/-- RESPONSE_ARM (R122). -/
def execResponseArm (s : State) : Host.Outcome State Fault Refusal :=
  live s (takeCommand .responseArm responseArmOwner)

/-- A template disarmed: ARMED and CLAIMING become DISARMED (R123). -/
def Template.disarm (p : Template) : Template :=
  match p.state with
  | .armed | .claiming => { p with state := .disarmed }
  | .empty | .disarmed => p

/-- RESPONSE_DISARM at the response unit (R123). -/
def responseDisarmOwner (w : Words8) (s : State) : State × Answer :=
  match templateIndex w[0].toNat with
  | none => (s, .refusal .badIndex)
  | some n => (onTemplate n Template.disarm s, .done)

/-- RESPONSE_DISARM (R123). -/
def execResponseDisarm (s : State) : Host.Outcome State Fault Refusal :=
  live s (takeCommand .responseDisarm responseDisarmOwner)

/-! ### Response claims (R125 to R127) -/

/-- Checks 5 and 6 of R29 on a response claim: the due is timestamp plus delay, and there is no repeat
(R35, R125). -/
def ResponseClaim.validate (c : ResponseClaim) (free : Nat) (serial : BitVec 32) :
    Except ResultCode Entry :=
  match c.fields.action with
  | .error r => .error r
  | .ok a =>
    match dueAfter c.stamp c.delay.toNat with
    | none => .error .badTime
    | some due =>
      if slotsNeeded a ≤ free then
        .ok { action := a, lines := c.fields.lines, due := due, tag := c.fields.tag
              late := c.fields.late, report := c.fields.report, rep := none, serial := serial
              reserved := a.isPulse }
      else .error .tableFull

/-- A CLAIMING template leaves that state; any other keeps its state (R126, R127). -/
def Template.settle (next : TemplateState) (p : Template) : Template :=
  if p.state = .claiming then { p with state := next } else p

/-- The oldest response claim taken by the table controller, where one is outstanding (R124 to R127;
log entry 1). -/
def responseClaim (s : State) : State :=
  match s.response.claims with
  | [] => s
  | c :: rest =>
    let taken := { s with response := { s.response with claims := rest } }
    match c.validate (freeSlotsOf s.table.entries) s.table.serialNext with
    | .ok e => onTemplate c.line (Template.settle .disarmed) (admitEntry e taken)
    | .error r =>
      offer (.responseLost c.line c.stamp r) (onTemplate c.line (Template.settle .armed) taken)

/-- RESPONSE_CLAIM (R125). -/
def execResponseClaim (s : State) : Host.Outcome State Fault Refusal := live s responseClaim

/-! ### Registers (R111, R119) -/

/-- A full-word write of CAP_CONFIG_n: the fourth edge encoding makes the whole write ignored; any
other stores bits 0, 5:4 and 31:16 (R111, R196). -/
def writeCapConfig (n : Fin 8) (v : Word) (s : State) : State :=
  match EdgeSelect.ofCode (v.extractLsb' 4 2) with
  | none => s
  | some select =>
    onInput n
      (fun l => { l with enable := v.getLsbD 0, select := select, holdoff := v.extractLsb' 16 16 }) s

/-- CAP_CONFIG_WRITE (R111). -/
def execCapConfigWrite (n : Fin 8) (v : Word) (s : State) : Host.Outcome State Fault Refusal :=
  live s (writeCapConfig n v)

/-- A full-word write of CAP_LOST_n sets the counter to 0, whatever is written (R119). -/
def writeCapLost (n : Fin 8) (_v : Word) (s : State) : State :=
  onInput n (fun l => { l with lost := 0 }) s

/-- CAP_LOST_WRITE (R119). -/
def execCapLostWrite (n : Fin 8) (v : Word) (s : State) : Host.Outcome State Fault Refusal :=
  live s (writeCapLost n v)

end Sys2Proof.Machine
end

