-- ==== Sys2Proof/Machine/Report.lean ====
section
/-! DEFINITION. The report unit (Chapter 7): the report writer, write completion, coalescing, and the
registers of the report ring. -/

namespace Sys2Proof.Machine

/-! ### Ring state -/

/-- The ring is full: producer + 1 equals the consumer index modulo size (R140). -/
def Ring.isFull (r : Ring) : Bool := r.after r.prod == r.cons

/-- The ring's state evaluated from its indices: FULL or RUNNING (R140, R143, R144). -/
def ReportUnit.evaluate (u : ReportUnit) : ReportUnit :=
  { u with state := if u.ring.isFull then .full else .running }

/-- The ring is enabled: RUNNING or FULL. -/
def ReportState.isOn : ReportState → Bool
  | .running | .full => true
  | .disabled | .halted => false

/-- The ring's state evaluated in RUNNING and FULL, and kept in DISABLED and HALTED (R140, R143). -/
def ReportUnit.evaluateIfOn (u : ReportUnit) : ReportUnit := if u.state.isOn then u.evaluate else u

/-- The ring enters DISABLED, and a pending disable clears (R145). -/
def ReportUnit.disabled (u : ReportUnit) : ReportUnit :=
  { u with state := .disabled, ring := { u.ring with disablePending := false } }

/-- The state with the report unit changed. -/
def onReport (f : ReportUnit → ReportUnit) (s : State) : State := { s with report := f s.report }

/-! ### The report writer (R137, R138) -/

/-- The source the writer chooses, where one holds a record (R137). -/
def chooseSource (notices : List Notice) (log : List CaptureRecord) (last : Source) :
    Option Source :=
  match notices, log with
  | [], [] => none
  | _ :: _, [] => some .notice
  | [], _ :: _ => some .capture
  | _ :: _, _ :: _ => some (match last with | .notice => .capture | .capture => .notice)

/-- The record at the head of a source, in its layout (R135, R199). -/
def headRecord (src : Source) (s : State) : Words8 :=
  match src with
  | .notice => match s.report.notices with
    | [] => Vector.replicate 8 0
    | n :: _ => n.words
  | .capture => match s.capture.log with
    | [] => Vector.replicate 8 0
    | r :: _ => r.words

/-- The conditions of R138 but the last: RUNNING, no disable pending, the bus-master enable set, no
write in flight. -/
def mayWrite (s : State) : Bool :=
  s.report.state == .running && !s.report.ring.disablePending && s.bus.masterEnable
    && s.report.inFlight == none

/-- The write starts: the request slot takes the address and the 32 bytes of the record (R138, R188). -/
def startWrite (src : Source) (s : State) : State :=
  { s with
    report := { s.report with inFlight := some src }
    bus := { s.bus with
      reportSlot := some
        { address := s.report.ring.address s.report.ring.prod, data := headRecord src s } } }

/-- The report writer starts a write, where all the conditions of R138 hold (log entry 1). -/
def reportWriteStart (s : State) : State :=
  match chooseSource s.report.notices s.capture.log s.report.lastSource with
  | none => s
  | some src => if mayWrite s then startWrite src s else s

/-- REPORT_WRITE_START (R138). -/
def execReportWriteStart (s : State) : Host.Outcome State Fault Refusal := live s reportWriteStart

/-! ### Coalescing (R148 to R150) -/

/-- REPORT is set and the unsignalled count returns to 0 (R148, R149). -/
def signalReport (s : State) : State :=
  raise .report (onReport (fun u => { u with count := 0 }) s)

/-- The unsignalled count raised by a DONE completion at `now`; raised from 0 to 1 it records the wait
start (R148, R149). -/
def ReportUnit.countOne (now : Time) (u : ReportUnit) : ReportUnit :=
  { u with count := u.count + 1, waitStart := if u.count = 0 then now else u.waitStart }

/-- A delivered record counted, and REPORT set at the threshold (R140, R148). With threshold 1 a count
raised from 0 records the wait start too before it returns to 0, which is the model's reading of R149 (log
entry 15). -/
def countDelivered (s : State) : State :=
  let counted := onReport (ReportUnit.countOne s.timebase.integer) s
  if s.report.threshold ≤ s.report.count + 1 then signalReport counted else counted

/-- The wait has expired at the integer `now`; an expiry point above 2^56-1 is reached at saturation
(R149; log entry 28). -/
def ReportUnit.expired (u : ReportUnit) (now : Time) : Bool :=
  decide (u.count ≠ 0) && decide (u.delay ≠ 0) &&
    (decide (min (u.waitStart.toNat + u.delay) Config.maxTime ≤ now.toNat)
      || decide (now.toNat < u.waitStart.toNat))

/-- The expiry, where the wait has expired (R149; log entry 1). -/
def coalesceExpiry (s : State) : State :=
  if s.report.expired s.timebase.integer then signalReport s else s

/-- COALESCE_EXPIRY (R149). -/
def execCoalesceExpiry (s : State) : Host.Outcome State Fault Refusal := live s coalesceExpiry

/-- The threshold and delay of a word written to REPORT_COAL, limited (R148, R196). -/
def ReportUnit.setCoal (v : Word) (u : ReportUnit) : ReportUnit :=
  { u with
    threshold := max 1 (v.extractLsb' 0 8).toNat
    delay := min (v.extractLsb' 8 21).toNat Config.maxDelay }

/-- A full-word write of REPORT_COAL, which can signal at the write (R150; log entry 14). -/
def writeReportCoal (v : Word) (s : State) : State :=
  let stored := onReport (ReportUnit.setCoal v) s
  if stored.report.threshold ≤ stored.report.count then signalReport stored
  else coalesceExpiry stored

/-- REPORT_COAL_WRITE (R150). -/
def execReportCoalWrite (v : Word) (s : State) : Host.Outcome State Fault Refusal :=
  live s (writeReportCoal v)

/-! ### Write completion (R140, R141, R152) -/

/-- The master port empties the report unit's slot and frees the bus (R189). -/
def releaseReportSlot (s : State) : State :=
  { s with bus := { s.bus with reportSlot := none, onBus := none } }

/-- The head notice removed; a notice-loss counter above 0 is built into the freed slot (R134). -/
def ReportUnit.removeNotice (now : Time) (u : ReportUnit) : ReportUnit :=
  if u.noticeLoss = 0 then { u with notices := u.notices.tail }
  else
    { u with
      notices := u.notices.tail ++ [{ time := now, body := .noticeLoss u.noticeLoss }]
      noticeLoss := 0 }

/-- The record removed from the head of its source (R117, R140). -/
def removeRecord (src : Source) (s : State) : State :=
  match src with
  | .notice => onReport (ReportUnit.removeNotice s.timebase.integer) s
  | .capture => { s with capture := { s.capture with log := s.capture.log.tail } }

/-- The producer index advanced, the mark set, and no write in flight (R140). -/
def ReportUnit.deliver (src : Source) (u : ReportUnit) : ReportUnit :=
  { u with
    ring := { u.ring with prod := u.ring.after u.ring.prod }
    lastSource := src
    inFlight := none }

/-- The ring after a completion: a pending disable is carried out (R140, R145). -/
def ReportUnit.endWrite (u : ReportUnit) : ReportUnit :=
  if u.ring.disablePending then u.disabled else u

/-- A delivery: the six steps of R140. -/
def deliverRecord (src : Source) (s : State) : State :=
  onReport (fun u => u.evaluateIfOn.endWrite)
    (countDelivered (onReport (ReportUnit.deliver src) (removeRecord src s)))

/-- The abandoned write's completion is discarded (R152). -/
def discardWrite (s : State) : State :=
  onReport (fun u => { u with ring := { u.ring with abandoned := false } }) s

/-- A completion of the report unit with no burst of its own on the bus: that of an abandoned write whose
request a power-on reset emptied from its slot is discarded (R152; log entry 10); there is no other (log
entry 1). -/
def discardEmptiedWrite (s : State) : State :=
  if s.report.ring.abandoned ∧ s.bus.reportSlot = none then discardWrite s else s

/-- The report burst completes DONE (R140, R152, R189). -/
def reportWriteDone (s : State) : State :=
  if s.bus.onBus = some .report then
    let freed := releaseReportSlot s
    if s.report.ring.abandoned then discardWrite freed
    else
      match s.report.inFlight with
      | some src => deliverRecord src freed
      | none => freed
  else discardEmptiedWrite s

/-- REPORT_WRITE_DONE (R140); a burst is carried to completion even while RESET_N is asserted (R190). -/
def execReportWriteDone (s : State) : Host.Outcome State Fault Refusal := .next (reportWriteDone s)

/-- The failed write ends: HALTED, with RING_ERROR and the report-ring halt flag, or DISABLED where a
disable is pending (R141, R145). -/
def failWrite (s : State) : State :=
  let ended := onReport (fun u => { u with inFlight := none }) s
  if s.report.ring.disablePending then onReport ReportUnit.disabled ended
  else
    let halted := raise .ringError (onReport (fun u => { u with state := .halted }) ended)
    { halted with irq := { halted.irq with haltReport := true } }

/-- The report burst completes ERROR (R141, R152, R189). -/
def reportWriteError (s : State) : State :=
  if s.bus.onBus = some .report then
    let freed := releaseReportSlot s
    if s.report.ring.abandoned then discardWrite freed
    else
      match s.report.inFlight with
      | some _ => failWrite freed
      | none => freed
  else discardEmptiedWrite s

/-- REPORT_WRITE_ERROR (R141). -/
def execReportWriteError (s : State) : Host.Outcome State Fault Refusal :=
  .next (reportWriteError s)

/-! ### Registers (R142 to R147) -/

/-- Base, size and producer index are written only while DISABLED with no disable pending; any other
such write is ignored and flagged (R142). -/
def ReportUnit.writeRing (f : Ring → Ring) (u : ReportUnit) : ReportUnit :=
  if u.state = .disabled ∧ u.ring.disablePending = false then { u with ring := f u.ring }
  else { u with ring := u.ring.ignore }

/-- A full-word write of REPORT_BASE (R142). -/
def writeReportBase (v : Word) (s : State) : State :=
  onReport (ReportUnit.writeRing fun r => r.setBase v) s

/-- REPORT_BASE_WRITE (R142). -/
def execReportBaseWrite (v : Word) (s : State) : Host.Outcome State Fault Refusal :=
  live s (writeReportBase v)

/-- A full-word write of REPORT_SIZE (R142). -/
def writeReportSize (v : Word) (s : State) : State :=
  onReport (ReportUnit.writeRing fun r => r.setSize v) s

/-- REPORT_SIZE_WRITE (R142). -/
def execReportSizeWrite (v : Word) (s : State) : Host.Outcome State Fault Refusal :=
  live s (writeReportSize v)

/-- A full-word write of REPORT_PROD (R142). -/
def writeReportProd (v : Word) (s : State) : State :=
  onReport (ReportUnit.writeRing fun r => r.setProd v) s

/-- REPORT_PROD_WRITE (R142). -/
def execReportProdWrite (v : Word) (s : State) : Host.Outcome State Fault Refusal :=
  live s (writeReportProd v)

/-- A full-word write of REPORT_CONS (R143). -/
def writeReportCons (v : Word) (s : State) : State :=
  onReport (fun u => { u with ring := u.ring.setCons v }.evaluateIfOn) s

/-- REPORT_CONS_WRITE (R143). -/
def execReportConsWrite (v : Word) (s : State) : Host.Outcome State Fault Refusal :=
  live s (writeReportCons v)

/-- The enable taken: refused without the bus-master enable or while an abandoned write is
outstanding; no change outside DISABLED (R144). -/
def ReportUnit.turnOn (master : Bool) (u : ReportUnit) : ReportUnit :=
  if u.state = .disabled then
    if master = false ∨ u.ring.abandoned then { u with ring := u.ring.refuse }
    else { u with ring := { u.ring with enable := true } }.evaluate
  else u

/-- The disable taken, by a write or by the clearing of the bus-master enable (R145, R146). -/
def ReportUnit.turnOff (u : ReportUnit) : ReportUnit :=
  let off := { u with ring := { u.ring with enable := false } }
  match u.state with
  | .disabled => off
  | .halted => off.disabled
  | .running | .full =>
    if u.inFlight = none then off.disabled
    else { off with ring := { off.ring with disablePending := true } }

/-- A full-word write of REPORT_CTRL: bit 0 is the enable (R144, R145). -/
def writeReportCtrl (v : Word) (s : State) : State :=
  onReport (if v.getLsbD 0 then ReportUnit.turnOn s.bus.masterEnable else ReportUnit.turnOff) s

/-- REPORT_ENABLE (R144). -/
def execReportEnable (v : Word) (s : State) : Host.Outcome State Fault Refusal :=
  live s (writeReportCtrl v)

/-- REPORT_DISABLE (R145). -/
def execReportDisable (v : Word) (s : State) : Host.Outcome State Fault Refusal :=
  live s (writeReportCtrl v)

/-- A full-word write of REPORT_STATUS (R147, R200). -/
def writeReportStatus (v : Word) (s : State) : State :=
  onReport (fun u => { u with ring := u.ring.clearFlags v }) s

/-- REPORT_STATUS_WRITE (R147). -/
def execReportStatusWrite (v : Word) (s : State) : Host.Outcome State Fault Refusal :=
  live s (writeReportStatus v)

end Sys2Proof.Machine
end

