-- ==== Sys2Proof/Machine/Aring.lean ====
section
/-! DEFINITION. The admission ring engine (Chapter 8): the descriptor fetch, its claim and the retry
claim, and the registers of the admission ring. -/

namespace Sys2Proof.Machine

/-- The state with the admission ring engine changed. -/
def onAring (f : AdmissionRing → AdmissionRing) (s : State) : State := { s with aring := f s.aring }

/-- The slot at the consumer index is published (R155). -/
def Ring.published (r : Ring) : Bool := r.prod != r.cons

/-- The ring enters DISABLED with nothing in flight or held; a pending disable clears (R166). -/
def AdmissionRing.disabled (a : AdmissionRing) : AdmissionRing :=
  { a with
    state := .disabled, ring := { a.ring with disablePending := false }
    buffer := none, fetch := .idle, retry := false }

/-- The engine in RUNNING with an empty buffer and nothing in flight. -/
def AdmissionRing.emptied (a : AdmissionRing) : AdmissionRing :=
  { a with state := .running, buffer := none, fetch := .idle, retry := false }

/-- The engine finishes a descriptor: the buffer is emptied and the consumer index advances (R155). -/
def AdmissionRing.finish (a : AdmissionRing) : AdmissionRing :=
  { a.emptied with ring := { a.ring with cons := a.ring.after a.ring.cons } }

/-! ### The fetch (R157, R158, R164) -/

/-- The conditions of R157. -/
def mayFetch (s : State) : Bool :=
  s.aring.state == .running && !s.aring.ring.disablePending && s.bus.masterEnable
    && s.aring.fetch == .idle && s.aring.buffer.isNone && s.aring.ring.published

/-- The engine starts a fetch, where the conditions hold: the request slot takes the address (R157,
R188; log entry 1). -/
def fetchStart (s : State) : State :=
  if mayFetch s then
    { s with
      aring := { s.aring with fetch := .burst }
      bus := { s.bus with admissionSlot := some (s.aring.ring.address s.aring.ring.cons) } }
  else s

/-- FETCH_START (R157). -/
def execFetchStart (s : State) : Host.Outcome State Fault Refusal := live s fetchStart

/-- The master port empties the engine's slot and frees the bus (R189). -/
def releaseAdmissionSlot (s : State) : State :=
  { s with bus := { s.bus with admissionSlot := none, onBus := none } }

/-- The abandoned fetch's completion is discarded (R170). -/
def discardFetch (s : State) : State :=
  onAring (fun a => { a with ring := { a.ring with abandoned := false } }) s

/-- A completion of the engine with no burst of its own on the bus: that of an abandoned fetch whose
request a power-on reset emptied from its slot is discarded (R170; log entry 10); there is no other (log
entry 1). -/
def discardEmptiedFetch (s : State) : State :=
  if s.aring.ring.abandoned ∧ s.bus.admissionSlot = none then discardFetch s else s

/-- The data of a fetch arrives: into the buffer with a claim, or discarded where a disable is pending
(R158, R166). -/
def AdmissionRing.receive (data : Words8) (a : AdmissionRing) : AdmissionRing :=
  if a.ring.disablePending then a.disabled else { a with buffer := some data, fetch := .claim }

/-- The fetch burst completes DONE (R158, R170, R189). -/
def fetchDone (data : Words8) (s : State) : State :=
  if s.bus.onBus = some .admission then
    let freed := releaseAdmissionSlot s
    if s.aring.ring.abandoned then discardFetch freed
    else if s.aring.fetch = .burst then onAring (AdmissionRing.receive data) freed
    else freed
  else discardEmptiedFetch s

/-- FETCH_DONE (R158); a burst is carried to completion even while RESET_N is asserted (R190). -/
def execFetchDone (data : Words8) (s : State) : Host.Outcome State Fault Refusal :=
  .next (fetchDone data s)

/-- The failed fetch ends: HALTED, with RING_ERROR and the admission-ring halt flag, or DISABLED where a
disable is pending (R164, R166). -/
def failFetch (s : State) : State :=
  if s.aring.ring.disablePending then onAring AdmissionRing.disabled s
  else
    let halted := raise .ringError (onAring (fun a => { a with state := .halted, fetch := .idle }) s)
    { halted with irq := { halted.irq with haltAdmission := true } }

/-- The fetch burst completes ERROR (R164, R170, R189). -/
def fetchError (s : State) : State :=
  if s.bus.onBus = some .admission then
    let freed := releaseAdmissionSlot s
    if s.aring.ring.abandoned then discardFetch freed
    else if s.aring.fetch = .burst then failFetch freed
    else freed
  else discardEmptiedFetch s

/-- FETCH_ERROR (R164). -/
def execFetchError (s : State) : Host.Outcome State Fault Refusal := .next (fetchError s)

/-! ### Claims (R158 to R162) -/

/-- The tag field of a descriptor as it was read (R159, R197). -/
def descriptorTag (w : Words8) : BitVec 16 := (RawFields.ofWords w).tag

/-- A rejection: REJECTED with the ring index before the advance, ADMIT_REJECT, and the consumer index
advanced (R159, R162). -/
def rejectDescriptor (w : Words8) (r : ResultCode) (s : State) : State :=
  onAring AdmissionRing.finish
    (raise .admitReject
      (offer (.rejected (BitVec.ofNat 12 s.aring.ring.cons) r (descriptorTag w)) s))

/-- An admission from the ring (R160). -/
def admitDescriptor (e : Entry) (s : State) : State :=
  onAring AdmissionRing.finish (admitEntry e s)

/-- The descriptor is held: HELD is entered, with ADMIT_HELD (R161). -/
def holdDescriptor (s : State) : State :=
  raise .admitHeld (onAring (fun a => { a with state := .held, fetch := .idle }) s)

/-- The claim of a fetched descriptor taken: withdrawn, admitted, held or rejected (R158 to R161). -/
def claimDescriptor (w : Words8) (s : State) : State :=
  if s.aring.ring.published then
    match validateNow (Candidate.ofWords w) s with
    | .ok e => admitDescriptor e s
    | .error .tableFull => holdDescriptor s
    | .error r => rejectDescriptor w r s
  else onAring AdmissionRing.emptied s

/-- The descriptor claim, where one waits (R158; log entry 1). -/
def descriptorClaim (s : State) : State :=
  match s.aring.fetch, s.aring.buffer with
  | .claim, some w => claimDescriptor w s
  | _, _ => s

/-- DESCRIPTOR_CLAIM (R158). -/
def execDescriptorClaim (s : State) : Host.Outcome State Fault Refusal := live s descriptorClaim

/-- The retry claim of the held descriptor taken: admitted, kept, or rejected (R162). -/
def claimHeld (w : Words8) (s : State) : State :=
  match validateNow (Candidate.ofWords w) s with
  | .ok e => admitDescriptor e s
  | .error .tableFull => onAring (fun a => { a with retry := false }) s
  | .error r => rejectDescriptor w r s

/-- The retry claim, where one is outstanding (R162; log entry 1). -/
def retryClaim (s : State) : State :=
  match s.aring.state, s.aring.retry, s.aring.buffer with
  | .held, true, some w => claimHeld w s
  | _, _, _ => s

/-- RETRY_CLAIM (R162). -/
def execRetryClaim (s : State) : Host.Outcome State Fault Refusal := live s retryClaim

/-! ### Registers (R153, R154, R156, R163, R166, R169) -/

/-- Base, size and consumer index are written only while DISABLED with no disable pending; any other
such write is ignored and flagged (R153). -/
def AdmissionRing.writeRing (f : Ring → Ring) (a : AdmissionRing) : AdmissionRing :=
  if a.state = .disabled ∧ a.ring.disablePending = false then { a with ring := f a.ring }
  else { a with ring := a.ring.ignore }

/-- A full-word write of ARING_BASE (R153). -/
def writeAringBase (v : Word) (s : State) : State :=
  onAring (AdmissionRing.writeRing fun r => r.setBase v) s

/-- ARING_BASE_WRITE (R153). -/
def execAringBaseWrite (v : Word) (s : State) : Host.Outcome State Fault Refusal :=
  live s (writeAringBase v)

/-- A full-word write of ARING_SIZE (R153). -/
def writeAringSize (v : Word) (s : State) : State :=
  onAring (AdmissionRing.writeRing fun r => r.setSize v) s

/-- ARING_SIZE_WRITE (R153). -/
def execAringSizeWrite (v : Word) (s : State) : Host.Outcome State Fault Refusal :=
  live s (writeAringSize v)

/-- A full-word write of ARING_CONS (R153). -/
def writeAringCons (v : Word) (s : State) : State :=
  onAring (AdmissionRing.writeRing fun r => r.setCons v) s

/-- ARING_CONS_WRITE (R153). -/
def execAringConsWrite (v : Word) (s : State) : Host.Outcome State Fault Refusal :=
  live s (writeAringCons v)

/-- A producer write: in HELD one that makes the indices equal withdraws the held descriptor (R154,
R163). -/
def AdmissionRing.writeProd (v : Word) (a : AdmissionRing) : AdmissionRing :=
  let stored := { a with ring := a.ring.setProd v }
  if a.state = .held ∧ stored.ring.published = false then stored.emptied else stored

/-- A full-word write of ARING_PROD (R154). -/
def writeAringProd (v : Word) (s : State) : State := onAring (AdmissionRing.writeProd v) s

/-- ARING_PROD_WRITE (R154). -/
def execAringProdWrite (v : Word) (s : State) : Host.Outcome State Fault Refusal :=
  live s (writeAringProd v)

/-- The enable taken: refused without the bus-master enable or while an abandoned fetch is
outstanding; no change outside DISABLED (R156). -/
def AdmissionRing.turnOn (master : Bool) (a : AdmissionRing) : AdmissionRing :=
  if a.state = .disabled then
    if master = false ∨ a.ring.abandoned then { a with ring := a.ring.refuse }
    else { a with state := .running, ring := { a.ring with enable := true } }
  else a

/-- The disable taken, by a write or by the clearing of the bus-master enable. A fetch whose burst is
done and whose claim waits ends at once (R166, R167; log entry 12). -/
def AdmissionRing.turnOff (a : AdmissionRing) : AdmissionRing :=
  let off := { a with ring := { a.ring with enable := false } }
  match a.state, a.fetch with
  | .disabled, _ => off
  | .running, .burst => { off with ring := { off.ring with disablePending := true } }
  | .running, .idle | .running, .claim | .held, _ | .halted, _ => off.disabled

/-- A full-word write of ARING_CTRL: bit 0 is the enable (R156, R166). -/
def writeAringCtrl (v : Word) (s : State) : State :=
  onAring (if v.getLsbD 0 then AdmissionRing.turnOn s.bus.masterEnable else AdmissionRing.turnOff) s

/-- ARING_ENABLE (R156). -/
def execAringEnable (v : Word) (s : State) : Host.Outcome State Fault Refusal :=
  live s (writeAringCtrl v)

/-- ARING_DISABLE (R166). -/
def execAringDisable (v : Word) (s : State) : Host.Outcome State Fault Refusal :=
  live s (writeAringCtrl v)

/-- A full-word write of ARING_STATUS (R169, R200). -/
def writeAringStatus (v : Word) (s : State) : State :=
  onAring (fun a => { a with ring := a.ring.clearFlags v }) s

/-- ARING_STATUS_WRITE (R169). -/
def execAringStatusWrite (v : Word) (s : State) : Host.Outcome State Fault Refusal :=
  live s (writeAringStatus v)

end Sys2Proof.Machine
end

