-- ==== Sys2Proof/Machine/Port.lean ====
section
/-! DEFINITION. The command port (Chapter 9): a write of CMD, and of CMD_RESULT. -/

namespace Sys2Proof.Machine

/-- A full-word write of CMD: while IDLE it issues the command its bits 7:0 name, with a copy of the
staging words, or is answered BAD_COMMAND; while BUSY it sets the overrun flag (R172, R174, R175). -/
def CommandPort.writeCmd (v : Word) (p : CommandPort) : CommandPort :=
  match p.buffer with
  | some _ => { p with overrun := true }
  | none =>
    match Command.ofCode (commandCode v) with
    | some c => { p with buffer := some { command := c, words := p.staging } }
    | none => p.post (commandCode v) (.refusal .badCommand)

/-- A full-word write of CMD (R172). -/
def writeCmd (v : Word) (s : State) : State := { s with port := s.port.writeCmd v }

/-- COMMAND_ISSUE (R172). -/
def execCommandIssue (v : Word) (s : State) : Host.Outcome State Fault Refusal := live s (writeCmd v)

/-- BAD_COMMAND (R175). -/
def execBadCommand (v : Word) (s : State) : Host.Outcome State Fault Refusal := live s (writeCmd v)

/-- CMD_OVERRUN (R174). -/
def execCmdOverrun (v : Word) (s : State) : Host.Outcome State Fault Refusal := live s (writeCmd v)

/-- A full-word write of CMD_RESULT: bit 25 at one clears the overrun flag (R176, R200). -/
def writeCmdResult (v : Word) (s : State) : State :=
  { s with port := { s.port with overrun := s.port.overrun && !v.getLsbD 25 } }

/-- CMD_RESULT_WRITE (R176). -/
def execCmdResultWrite (v : Word) (s : State) : Host.Outcome State Fault Refusal :=
  live s (writeCmdResult v)

end Sys2Proof.Machine
end

