-- ==== Sys2Proof/Machine/Reset.lean ====
section
/-! DEFINITION. The two resets (R185, R186, and the reset rule of each chapter). -/

namespace Sys2Proof.Machine

/-- The report unit after a reset: a write in flight is abandoned, and stays so until its completion
(R151, R152, Table 7-3). -/
def ReportUnit.afterReset (u : ReportUnit) : ReportUnit :=
  { ReportUnit.reset with
    ring := { Ring.reset with abandoned := u.ring.abandoned || u.inFlight.isSome } }

/-- The admission ring engine after a reset: a fetch whose burst has not completed is abandoned, and stays
so until its completion (R170, Table 8-2; log entry 13). -/
def AdmissionRing.afterReset (a : AdmissionRing) : AdmissionRing :=
  { AdmissionRing.reset with
    ring := { Ring.reset with abandoned := a.ring.abandoned || a.fetch == .burst } }

/-- Soft reset, taken by every block (R185): what R16, R190 and R194 keep is kept; the synchronised
level of FAULT_N goes on following the pin (log entry 6). -/
def softReset (s : State) : State :=
  { timebase := { s.timebase with snapshotHold := 0 }
    table := Table.reset
    seq := Sequencer.reset
    lines := { LineUnit.reset with faultSeen := s.lines.faultSeen }
    capture := CaptureUnit.reset
    response := ResponseUnit.reset
    report := s.report.afterReset
    aring := s.aring.afterReset
    port := CommandPort.reset
    irq := InterruptUnit.reset
    bus := { s.bus with narrowFlag := false }
    resetAsserted := s.resetAsserted
    periodDraws := s.periodDraws
    pending := s.pending }

/-- A request slot after a power-on reset: emptied by R186 and R194, or kept by R190; the spec does not
settle which (log entry 10). -/
def slotAfterPowerOn {α : Type} (slot : Option α) : Option α :=
  match slot with
  | none => none
  | some q => if Config.powerOnWithdraws then none else some q

/-- Power-on reset: RESET_N becomes asserted. The burst on the bus goes on (R186, R190). -/
def powerOnReset (s : State) : State :=
  { State.reset with
    report := s.report.afterReset
    aring := s.aring.afterReset
    bus := { BusInterface.reset with
      admissionSlot := slotAfterPowerOn s.bus.admissionSlot
      reportSlot := slotAfterPowerOn s.bus.reportSlot
      onBus := s.bus.onBus
      readData := s.bus.readData }
    resetAsserted := true
    periodDraws := s.periodDraws
    pending := s.pending }

/-- POWER_ON_RESET (R186). -/
def execPowerOnReset (s : State) : Host.Outcome State Fault Refusal := .next (powerOnReset s)

/-- RESET_N_DEASSERTION: every block begins from its power-on values (R186). -/
def execResetNDeassertion (s : State) : Host.Outcome State Fault Refusal :=
  .next { s with resetAsserted := false }

/-- The bus-master enable stored; clearing it gives each ring engine the master-enable-cleared event
(R146, R167, R184). -/
def storeMasterEnable (b : Bool) (s : State) : State :=
  let stored := { s with bus := { s.bus with masterEnable := b } }
  if s.bus.masterEnable = true ∧ b = false then
    onAring AdmissionRing.turnOff (onReport ReportUnit.turnOff stored)
  else stored

/-- A full-word write of CONTROL: bit 0 is stored, and then bit 1 at one requests the soft reset
(R184, R185, R200). -/
def writeControl (v : Word) (s : State) : State :=
  let stored := storeMasterEnable (v.getLsbD 0) s
  if v.getLsbD 1 then softReset stored else stored

/-- SOFT_RESET (R185). -/
def execSoftReset (v : Word) (s : State) : Host.Outcome State Fault Refusal :=
  live s (writeControl v)

/-- BUS_MASTER_ENABLE_WRITE (R184). -/
def execBusMasterEnableWrite (v : Word) (s : State) : Host.Outcome State Fault Refusal :=
  live s (writeControl v)

end Sys2Proof.Machine
end

