-- ==== Sys2Proof/Machine/Bus.lean ====
section
/-! DEFINITION. The bus interface and the interrupt unit (Chapter 10): grants, BUS_STATUS, INT_CAUSE and
INT_ENABLE. -/

namespace Sys2Proof.Machine

/-! ### Grants (R188) -/

/-- The engine whose request is granted, while the bus is free: no slot's burst is then on the bus, so
every request in a slot is a waiting one (R188). -/
def BusInterface.chooseGrant (b : BusInterface) : Option Engine :=
  match b.onBus with
  | some _ => none
  | none =>
    match b.admissionSlot, b.reportSlot with
    | none, none => none
    | some _, none => some .admission
    | none, some _ => some .report
    | some _, some _ => some (match b.grantMark with | .admission => .report | .report => .admission)

/-- A grant of `e`: its burst is on the bus and the mark names it. While RESET_N is asserted the mark
stays at its power-on value (R186, R188; log entry 10). -/
def grant (e : Engine) (s : State) : State :=
  { s with bus := { s.bus with
      onBus := some e
      grantMark := if s.resetAsserted then s.bus.grantMark else e } }

/-- The master port grants a request, where the bus is free and one waits (R188; log entry 1). -/
def burstGrant (s : State) : State :=
  match s.bus.chooseGrant with
  | none => s
  | some e => grant e s

/-- BURST_GRANT (R188); a request that is still waiting while RESET_N is asserted is performed (R190; log
entry 10). -/
def execBurstGrant (s : State) : Host.Outcome State Fault Refusal := .next (burstGrant s)

/-! ### BUS_STATUS (R181) -/

/-- A full-word write of BUS_STATUS: bit 0 at one clears the narrow-write flag (R181). -/
def writeBusStatus (v : Word) (s : State) : State :=
  { s with bus := { s.bus with narrowFlag := s.bus.narrowFlag && !v.getLsbD 0 } }

/-- BUS_STATUS_WRITE (R181). -/
def execBusStatusWrite (v : Word) (s : State) : Host.Outcome State Fault Refusal :=
  live s (writeBusStatus v)

/-! ### Interrupt unit (R191 to R193) -/

/-- A full-word write of INT_CAUSE (R191, R192). -/
def writeIntCause (v : Word) (s : State) : State := { s with irq := s.irq.clearWritten v }

/-- INT_CAUSE_WRITE (R191). -/
def execIntCauseWrite (v : Word) (s : State) : Host.Outcome State Fault Refusal :=
  live s (writeIntCause v)

/-- A full-word write of INT_ENABLE sets every enable (R193). -/
def writeIntEnable (v : Word) (s : State) : State :=
  { s with irq := { s.irq with enables := v.extractLsb' 0 10 } }

/-- INT_ENABLE_WRITE (R193). -/
def execIntEnableWrite (v : Word) (s : State) : Host.Outcome State Fault Refusal :=
  live s (writeIntEnable v)

end Sys2Proof.Machine
end

