-- ==== Sys2Proof/Machine/Window.lean ====
section
/-! DEFINITION. The register window (Chapters 10 and 11): the full-word write of every register, narrow
writes, and the value every read returns. -/

namespace Sys2Proof.Machine

/-! ### Writes -/

/-- A full-word write of a staging word (R171). -/
def writeStage (n : Fin 8) (v : Word) (s : State) : State :=
  { s with port := { s.port with staging := s.port.staging.set n v } }

/-- A full-word write of LATE_MARGIN takes bits 15:0 (R14, R196). -/
def writeLateMargin (v : Word) (s : State) : State :=
  { s with timebase := { s.timebase with lateMargin := v.extractLsb' 0 16 } }

/-- A full-word write of SEQ_CONFIG: bit 0 is the TABLE_EMPTY reporting enable (R60). -/
def writeSeqConfig (v : Word) (s : State) : State :=
  { s with seq := { s.seq with emptyReport := v.getLsbD 0 } }

/-- A full-word write of a mapped register, by its access type and its chapter's rules; a write of a
read-only register is ignored (R181, R183). -/
def writeRegister (r : Reg) (v : Word) (s : State) : State :=
  match r with
  | .control => writeControl v s
  | .busStatus => writeBusStatus v s
  | .intCause => writeIntCause v s
  | .intEnable => writeIntEnable v s
  | .stage n => writeStage n v s
  | .cmd => writeCmd v s
  | .cmdResult => writeCmdResult v s
  | .lateMargin => writeLateMargin v s
  | .seqConfig => writeSeqConfig v s
  | .outPolarity => writePolarity v s
  | .outSafe => writeSafe v s
  | .faultConfig => writeFaultConfig v s
  | .capConfig n => writeCapConfig n v s
  | .capLost n => writeCapLost n v s
  | .reportBase => writeReportBase v s
  | .reportSize => writeReportSize v s
  | .reportProd => writeReportProd v s
  | .reportCons => writeReportCons v s
  | .reportCtrl => writeReportCtrl v s
  | .reportStatus => writeReportStatus v s
  | .reportCoal => writeReportCoal v s
  | .aringBase => writeAringBase v s
  | .aringSize => writeAringSize v s
  | .aringProd => writeAringProd v s
  | .aringCons => writeAringCons v s
  | .aringCtrl => writeAringCtrl v s
  | .aringStatus => writeAringStatus v s
  | .id | .intActive | .cmdValue0 | .cmdValue1 | .timeLo | .timeHi | .trimActive | .trimPending
  | .tableStatus | .headDueLo | .headDueHi | .serialNext | .queryDueHi | .seqStatus
  | .outMode | .outLevel | .outPins | .gateFaultStatus | .patternPending | .patternFinal
  | .genPeriod _ | .genHigh _ | .inLevel | .capLogCount | .respStatus | .capSeq _ | .capSupp _
  | .noticeStatus | .reportCount => s

/-- A full-word write at a window offset; an unmapped offset ignores it (R180, R181). -/
def writeOffset (offset : BitVec 10) (v : Word) (s : State) : State :=
  match Reg.ofOffset offset with
  | some r => writeRegister r v s
  | none => s

/-- REGISTER_WRITE (R183); an offset whose register has a row of its own acts as that row (log entry
4). -/
def execRegisterWrite (offset : BitVec 10) (v : Word) (s : State) :
    Host.Outcome State Fault Refusal :=
  live s (writeOffset offset v)

/-- A write with the byte lanes `lanes`: a narrow one sets the narrow-write flag and nothing else; one
that enables all four lanes is a full-word write (R180, R181; log entry 4). -/
def writeLanes (offset : BitVec 10) (lanes : BitVec 4) (v : Word) (s : State) : State :=
  if lanes = 0xF then writeOffset offset v s
  else { s with bus := { s.bus with narrowFlag := true } }

/-- NARROW_WRITE (R181). -/
def execNarrowWrite (offset : BitVec 10) (lanes : BitVec 4) (v : Word) (s : State) :
    Host.Outcome State Fault Refusal :=
  live s (writeLanes offset lanes v)

/-! ### Reads (R182, R183; Table 11-2) -/

/-- A word of eight 4-bit positions, position n at bit 4n (RESP_STATUS, Table 11-2). -/
def nibbles (f : Fin 8 → Word) : Word :=
  (List.finRange 8).foldr (fun n w => (f n <<< (4 * n.val)) ||| w) 0

/-- The mask of the generators with a property (R96). -/
def LineUnit.genMask (l : LineUnit) (p : Generator → Bool) : LineMask :=
  BitVec.ofFnLE fun n : Fin 16 => p l.gens[n]

/-- A position of a template in RESP_STATUS: its state and its outstanding claim (R120). -/
def ResponseUnit.status (u : ResponseUnit) (n : Fin 8) : Word :=
  u.templates[n].state.code ||| bitAt (u.outstanding n) 2

/-- The flags, marks and state of a ring's status word (Table 11-2). -/
def Ring.statusWord (r : Ring) (state : Word) (inFlight : Bool) : Word :=
  state ||| bitAt r.disablePending 4 ||| bitAt inFlight 5 ||| bitAt r.ignoredWrite 8
    ||| bitAt r.enableRefused 9

/-- CMD_RESULT (R176). -/
def CommandPort.resultWord (p : CommandPort) : Word :=
  p.result.code.setWidth 32 ||| (p.resultCommand.setWidth 32 <<< 8)
    ||| (p.completions.setWidth 32 <<< 16) ||| bitAt p.buffer.isSome 24 ||| bitAt p.overrun 25

/-- CAP_CONFIG_n (R111). -/
def InputLine.configWord (l : InputLine) : Word :=
  bitAt l.enable 0 ||| (l.select.code <<< 4) ||| (l.holdoff.setWidth 32 <<< 16)

/-- TABLE_STATUS (R56). -/
def Table.statusWord (t : Table) : Word :=
  countWord t.entries.length ||| (countWord (reservationsOf t.entries) <<< 10)
    ||| (countWord (freeSlotsOf t.entries) <<< 20)

/-- The value a mapped register shows while RESET_N is deasserted (R182, R183, Tables 11-1 and 11-2). -/
def State.regValue (s : State) (r : Reg) : Word :=
  match r with
  | .id => Config.idWord
  | .control => bitAt s.bus.masterEnable 0
  | .busStatus => bitAt s.bus.narrowFlag 0
  | .intCause =>
    s.irq.causes.setWidth 32 ||| bitAt s.irq.haltReport 16 ||| bitAt s.irq.haltAdmission 17
  | .intEnable => s.irq.enables.setWidth 32
  | .intActive => s.irq.active.setWidth 32
  | .stage n => s.port.staging[n]
  | .cmd => 0
  | .cmdResult => s.port.resultWord
  | .cmdValue0 => s.port.value0
  | .cmdValue1 => s.port.value1
  | .timeLo => s.timebase.integer.low
  | .timeHi => highWord s.timebase.snapshotHold
  | .trimActive => s.timebase.trimActive.signExtend 32
  | .trimPending => s.timebase.trimPending.signExtend 32
  | .lateMargin => s.timebase.lateMargin.setWidth 32
  | .tableStatus => s.table.statusWord
  | .headDueLo => (headDue s.table.entries).low
  | .headDueHi => highWord s.table.headHold
  | .serialNext => s.table.serialNext
  | .queryDueHi => highWord s.table.queryHold
  | .seqStatus => s.seq.state.code ||| (s.seq.stopCause.code <<< 4)
  | .seqConfig => bitAt s.seq.emptyReport 0
  | .outPolarity => maskWord s.lines.polarity
  | .outSafe => maskWord s.lines.safe
  | .outMode => maskWord s.lines.patternMask
  | .outLevel => maskWord s.levels
  | .outPins => maskWord s.pins
  | .faultConfig => bitAt s.lines.faultEnable 0
  | .gateFaultStatus =>
    bitAt s.lines.gateOpen 0 ||| bitAt s.lines.faultLatch 1 ||| bitAt s.lines.faultSeen 2
  | .patternPending =>
    maskWord (s.lines.genMask (·.reloadPending))
      ||| (maskWord (s.lines.genMask (·.pendingStop.isSome)) <<< 16)
  | .patternFinal => maskWord (s.lines.genMask (·.pendingStop == some true))
  | .genPeriod n => s.lines.gens[n].active.period.setWidth 32
  | .genHigh n => s.lines.gens[n].active.high.setWidth 32
  | .inLevel =>
    (BitVec.ofFnLE fun n : Fin 8 => s.capture.inputs[n].sync == some true).setWidth 32
  | .capLogCount => countWord s.capture.log.length
  | .respStatus => nibbles s.response.status
  | .capConfig n => s.capture.inputs[n].configWord
  | .capSeq n => s.capture.inputs[n].seq
  | .capSupp n => s.capture.inputs[n].supp.setWidth 32
  | .capLost n => s.capture.inputs[n].lost
  | .noticeStatus =>
    countWord s.report.notices.length
      ||| (highWord (shown s.report.noticeLoss.toNat) <<< 8)
  | .reportBase => s.report.ring.base
  | .reportSize => countWord s.report.ring.size
  | .reportProd => countWord s.report.ring.prod
  | .reportCons => countWord s.report.ring.cons
  | .reportCtrl => bitAt s.report.ring.enable 0
  | .reportStatus => s.report.ring.statusWord s.report.state.code s.report.inFlight.isSome
  | .reportCoal => countWord s.report.threshold ||| (countWord s.report.delay <<< 8)
  | .reportCount => countWord s.report.count
  | .aringBase => s.aring.ring.base
  | .aringSize => countWord s.aring.ring.size
  | .aringProd => countWord s.aring.ring.prod
  | .aringCons => countWord s.aring.ring.cons
  | .aringCtrl => bitAt s.aring.ring.enable 0
  | .aringStatus =>
    s.aring.ring.statusWord s.aring.state.code (s.aring.fetch != .idle) ||| bitAt s.aring.retry 6

/-- What a read at a window offset returns: 0 at an unmapped offset and while RESET_N is asserted. A
read changes nothing but the holds of the two read rows (R180, R182, R186; log entry 17). -/
def State.readOffset (s : State) (offset : BitVec 10) : Word :=
  if s.resetAsserted then 0
  else
    match Reg.ofOffset offset with
    | some r => s.regValue r
    | none => 0

end Sys2Proof.Machine
end

