-- ==== Sys2Proof/Machine/Dispatch.lean ====
section
/-! DEFINITION. One arm per command: the meaning it has. -/

namespace Sys2Proof.Machine

/-- The effect of a command on everything but the queue. -/
def exec (i : Instr) (s : State) : Host.Outcome State Fault Refusal :=
  match i with
  | .timebaseAdvance => Sys2Proof.Machine.execTimebaseAdvance s
  | .powerOnReset => Sys2Proof.Machine.execPowerOnReset s
  | .resetNDeassertion => Sys2Proof.Machine.execResetNDeassertion s
  | .softReset v => Sys2Proof.Machine.execSoftReset v s
  | .busMasterEnableWrite v => Sys2Proof.Machine.execBusMasterEnableWrite v s
  | .narrowWrite offset lanes v => Sys2Proof.Machine.execNarrowWrite offset lanes v s
  | .busStatusWrite v => Sys2Proof.Machine.execBusStatusWrite v s
  | .registerWrite offset v => Sys2Proof.Machine.execRegisterWrite offset v s
  | .timeLoRead => Sys2Proof.Machine.execTimeLoRead s
  | .headDueLoRead => Sys2Proof.Machine.execHeadDueLoRead s
  | .intCauseWrite v => Sys2Proof.Machine.execIntCauseWrite v s
  | .intEnableWrite v => Sys2Proof.Machine.execIntEnableWrite v s
  | .commandIssue v => Sys2Proof.Machine.execCommandIssue v s
  | .badCommand v => Sys2Proof.Machine.execBadCommand v s
  | .cmdOverrun v => Sys2Proof.Machine.execCmdOverrun v s
  | .cmdResultWrite v => Sys2Proof.Machine.execCmdResultWrite v s
  | .admitCandidate => Sys2Proof.Machine.execAdmit s
  | .cancelTag => Sys2Proof.Machine.execCancelTag s
  | .cancelLines => Sys2Proof.Machine.execCancelLines s
  | .flush => Sys2Proof.Machine.execFlush s
  | .queryTag => Sys2Proof.Machine.execQueryTag s
  | .seqRun => Sys2Proof.Machine.execSeqRun s
  | .seqSingle => Sys2Proof.Machine.execSeqSingle s
  | .seqStop => Sys2Proof.Machine.execSeqStop s
  | .timeSet => Sys2Proof.Machine.execTimeSet s
  | .timeStep => Sys2Proof.Machine.execTimeStep s
  | .trimSet => Sys2Proof.Machine.execTrimSet s
  | .gateOpen => Sys2Proof.Machine.execGateOpen s
  | .gateClose => Sys2Proof.Machine.execGateClose s
  | .faultClear => Sys2Proof.Machine.execFaultClear s
  | .lineWrite => Sys2Proof.Machine.execLineWrite s
  | .responseLoad => Sys2Proof.Machine.execResponseLoad s
  | .responseArm => Sys2Proof.Machine.execResponseArm s
  | .responseDisarm => Sys2Proof.Machine.execResponseDisarm s
  | .taking => Sys2Proof.Machine.execTaking s
  | .periodStartEvent n => Sys2Proof.Machine.execPeriodStartEvent n s
  | .faultLatch => Sys2Proof.Machine.execFaultLatch s
  | .faultNSeenChange asserted => Sys2Proof.Machine.execFaultNSeenChange asserted s
  | .faultClaim => Sys2Proof.Machine.execFaultClaim s
  | .seqFaultEvent => Sys2Proof.Machine.execSeqFaultEvent s
  | .outPolarityWrite v => Sys2Proof.Machine.execOutPolarityWrite v s
  | .outSafeWrite v => Sys2Proof.Machine.execOutSafeWrite v s
  | .faultConfigWrite v => Sys2Proof.Machine.execFaultConfigWrite v s
  | .inputEdge n edge => Sys2Proof.Machine.execInputEdge n edge s
  | .firstSynchronisedLevel n level => Sys2Proof.Machine.execFirstSynchronisedLevel n level s
  | .responseClaim => Sys2Proof.Machine.execResponseClaim s
  | .capConfigWrite n v => Sys2Proof.Machine.execCapConfigWrite n v s
  | .capLostWrite n v => Sys2Proof.Machine.execCapLostWrite n v s
  | .reportWriteStart => Sys2Proof.Machine.execReportWriteStart s
  | .reportWriteDone => Sys2Proof.Machine.execReportWriteDone s
  | .reportWriteError => Sys2Proof.Machine.execReportWriteError s
  | .coalesceExpiry => Sys2Proof.Machine.execCoalesceExpiry s
  | .reportCoalWrite v => Sys2Proof.Machine.execReportCoalWrite v s
  | .reportBaseWrite v => Sys2Proof.Machine.execReportBaseWrite v s
  | .reportSizeWrite v => Sys2Proof.Machine.execReportSizeWrite v s
  | .reportProdWrite v => Sys2Proof.Machine.execReportProdWrite v s
  | .reportConsWrite v => Sys2Proof.Machine.execReportConsWrite v s
  | .reportEnable v => Sys2Proof.Machine.execReportEnable v s
  | .reportDisable v => Sys2Proof.Machine.execReportDisable v s
  | .reportStatusWrite v => Sys2Proof.Machine.execReportStatusWrite v s
  | .fetchStart => Sys2Proof.Machine.execFetchStart s
  | .fetchDone data => Sys2Proof.Machine.execFetchDone data s
  | .fetchError => Sys2Proof.Machine.execFetchError s
  | .descriptorClaim => Sys2Proof.Machine.execDescriptorClaim s
  | .retryClaim => Sys2Proof.Machine.execRetryClaim s
  | .aringBaseWrite v => Sys2Proof.Machine.execAringBaseWrite v s
  | .aringSizeWrite v => Sys2Proof.Machine.execAringSizeWrite v s
  | .aringConsWrite v => Sys2Proof.Machine.execAringConsWrite v s
  | .aringProdWrite v => Sys2Proof.Machine.execAringProdWrite v s
  | .aringEnable v => Sys2Proof.Machine.execAringEnable v s
  | .aringDisable v => Sys2Proof.Machine.execAringDisable v s
  | .aringStatusWrite v => Sys2Proof.Machine.execAringStatusWrite v s
  | .burstGrant => Sys2Proof.Machine.execBurstGrant s

end Sys2Proof.Machine
end

