-- ==== Sys2Proof/Safety.lean ====
section
/-! DEFINITION. What stays true of the part at every step: the invariants the statements speak of. Each is
a decidable property of one state. -/

namespace Sys2Proof.Machine

/-! ### The action table (R19, R25, R26, R28, R30, R33, R39) -/

/-- A period and a high time in range (R96). -/
def Pair.inRange (p : Pair) : Bool :=
  decide (2 ≤ p.period.toNat) && decide (p.period.toNat ≤ Config.maxPeriod)
    && decide (p.high.toNat ≤ p.period.toNat)

/-- The parameters of an action in range (R25). -/
def Action.inRange : Action → Bool
  | .pulse w => w != 0
  | .patternLoad p => p.inRange
  | .set | .clear | .toggle | .patternStart | .patternStop _ _ | .mark | .trail => true

/-- A line set is empty for a MARK, and for a MARK alone (R19, R33, R52). -/
def linesFit (a : Action) (m : LineMask) : Bool := (a == .mark) == (m == 0)

/-- A repeat an entry may hold: a positive interval, above a PULSE's width; a remaining from 1 to the
count where the count is not 0, and no remaining where it is (R26). -/
def Repeat.fits (a : Action) (r : Repeat) : Bool :=
  repeatFits a (some (r.interval, r.count)) &&
    match r.remaining with
    | none => r.count == 0
    | some m => m != 0 && decide (m.toNat ≤ r.count.toNat)

/-- An entry as the table may hold it: a reservation exactly for a PULSE (R28), parameters and lines in
range, a repeat that fits, and none for a TRAIL (R33). -/
def Entry.fits (e : Entry) : Bool :=
  (e.reserved == e.action.isPulse) && e.action.inRange && linesFit e.action e.lines
    && (match e.rep with
      | none => true
      | some r => !e.isTrail && r.fits e.action)

/-- Template fields that RESPONSE_LOAD can have left: they name an action whose lines fit (R121). -/
def TemplateFields.fits (f : TemplateFields) : Bool :=
  match f.action with
  | .error _ => false
  | .ok a => a.inRange && linesFit a f.lines && a != .trail

/-- The table is in due order, its entries are well formed, occupancy is at most 256, and every loaded
template and every outstanding response claim carries well-formed fields (R30, R39). -/
abbrev TableInv (s : State) : Prop :=
  s.table.entries.Pairwise (fun a b => a.due.toNat ≤ b.due.toNat)
    ∧ (∀ e ∈ s.table.entries, e.fits = true)
    ∧ occupancyOf s.table.entries ≤ Config.tableSlots
    ∧ (∀ n : Fin 8, s.response.templates[n].state ≠ .empty →
        s.response.templates[n].fields.fits = true)
    ∧ (∀ c ∈ s.response.claims, c.fields.fits = true)

/-! ### Generators (R96, R100) -/

/-- A generator at the integer `now`: pairs in range; a stopped one has its active pair equal to its
shadow pair and nothing pending; a running one started at or before `now`, and its next period start
lies on its grid after its start time. -/
abbrev Generator.fits (g : Generator) (now : Time) : Prop :=
  g.active.inRange = true ∧ g.shadow.inRange = true
    ∧ (g.running = false → g.active = g.shadow ∧ g.reloadPending = false ∧ g.pendingStop = none)
    ∧ (g.running = true →
        g.start.toNat ≤ now.toNat ∧ g.start.toNat < g.nextStart
          ∧ (g.nextStart - g.start.toNat) % g.active.period.toNat = 0)

/-- Every generator fits (R96, R100, R101). -/
abbrev GeneratorInv (s : State) : Prop :=
  ∀ n : Fin 16, Generator.fits s.lines.gens[n] s.timebase.integer

/-! ### Queues and coalescing (R116, R131, R134, R148) -/

/-- The notice queue holds at most 32 records and is full while lost notices are counted, the capture
log holds at most 64, and the coalescing numbers are in range. -/
abbrev QueueInv (s : State) : Prop :=
  s.report.notices.length ≤ Config.noticeSlots
    ∧ (s.report.noticeLoss ≠ 0 → s.report.notices.length = Config.noticeSlots)
    ∧ s.capture.log.length ≤ Config.logSlots
    ∧ 1 ≤ s.report.threshold ∧ s.report.threshold ≤ 255
    ∧ s.report.delay ≤ Config.maxDelay
    ∧ s.report.count < s.report.threshold

/-! ### Rings (R142, R153, R189) -/

/-- A ring's words in range (R142, R153). -/
abbrev Ring.fits (r : Ring) : Prop :=
  r.size ∈ Config.ringSizes ∧ r.prod < r.size ∧ r.cons < r.size ∧ r.base.toNat % 64 = 0

/-- Both rings' words are in range, and every requested address is a multiple of 32 (R189). -/
abbrev RingInv (s : State) : Prop :=
  s.report.ring.fits ∧ s.aring.ring.fits
    ∧ s.bus.admissionSlot.all (fun a => a.toNat % 32 == 0) = true
    ∧ s.bus.reportSlot.all (fun q => q.address.toNat % 32 == 0) = true

/-- The source's head record exists. -/
def holdsRecord (s : State) : Source → Bool
  | .notice => !s.report.notices.isEmpty
  | .capture => !s.capture.log.isEmpty

/-- The report ring's state, marks and request agree (R138, R140, R144 to R146, R152, R188; log entry 10
for an abandoned write whose slot a power-on reset emptied). -/
abbrev ReportInv (s : State) : Prop :=
  (s.report.inFlight.isSome = true → s.report.state.isOn = true)
    ∧ (s.report.ring.disablePending = true → s.report.inFlight.isSome = true)
    ∧ s.report.ring.enable = (s.report.state != .disabled && !s.report.ring.disablePending)
    ∧ (s.report.ring.enable = true → s.bus.masterEnable = true)
    ∧ (s.report.state.isOn = true → (s.report.state == .full) = s.report.ring.isFull)
    ∧ s.report.inFlight.all (holdsRecord s) = true
    ∧ (s.report.ring.abandoned = true → s.report.state = .disabled)
    ∧ (s.report.inFlight.isSome = true → s.bus.reportSlot.isSome = true)
    ∧ (s.report.ring.abandoned = true →
        s.bus.reportSlot.isSome = true ∨ s.bus.onBus = some .report
          ∨ Config.powerOnWithdraws = true)
    ∧ (s.bus.reportSlot.isSome = true ∨ s.bus.onBus = some .report →
        s.report.inFlight.isSome = true ∨ s.report.ring.abandoned = true)

/-- The checks 1 to 4 of R29 pass for the candidate in these words (R162). -/
def passesFirstChecks (w : Words8) : Bool :=
  match (RawFields.ofWords w).check with
  | .error _ => false
  | .ok f => repeatFits f.action (Candidate.ofWords w).rep

/-- The admission ring engine's state, buffer, marks and request agree (R156 to R158, R161 to R163, R166,
R167, R170, R188; log entry 10 for an abandoned fetch whose slot a power-on reset emptied). -/
abbrev AringInv (s : State) : Prop :=
  (s.aring.fetch ≠ .idle → s.aring.state = .running)
    ∧ (s.aring.ring.disablePending = true → s.aring.fetch = .burst)
    ∧ s.aring.ring.enable = (s.aring.state != .disabled && !s.aring.ring.disablePending)
    ∧ (s.aring.ring.enable = true → s.bus.masterEnable = true)
    ∧ s.aring.buffer.isSome = (s.aring.state == .held || s.aring.fetch == .claim)
    ∧ (s.aring.retry = true → s.aring.state = .held)
    ∧ (s.aring.state = .held → s.aring.ring.published = true)
    ∧ (s.aring.state = .held → s.aring.buffer.all passesFirstChecks = true)
    ∧ (s.aring.ring.abandoned = true → s.aring.state = .disabled)
    ∧ (s.aring.fetch = .burst → s.bus.admissionSlot.isSome = true)
    ∧ (s.aring.ring.abandoned = true →
        s.bus.admissionSlot.isSome = true ∨ s.bus.onBus = some .admission
          ∨ Config.powerOnWithdraws = true)
    ∧ (s.bus.admissionSlot.isSome = true ∨ s.bus.onBus = some .admission →
        s.aring.fetch = .burst ∨ s.aring.ring.abandoned = true)

/-! ### Response templates (R120, R122, R124, R126) -/

/-- The number of outstanding claims of template `n`. -/
def ResponseUnit.claimCount (u : ResponseUnit) (n : Fin 8) : Nat := u.claims.countP (·.line == n)

/-- An EMPTY template holds the values a reset gives and has no claim (R130); a CLAIMING template is
ONE_SHOT with exactly one claim; an ARMED ONE_SHOT template has no claim (R126). -/
abbrev ResponseInv (s : State) : Prop :=
  ∀ n : Fin 8,
    (s.response.templates[n].state = .empty →
        s.response.templates[n] = Template.reset ∧ s.response.claimCount n = 0)
      ∧ (s.response.templates[n].mode = .oneShot → s.response.templates[n].state = .armed →
          s.response.claimCount n = 0)
      ∧ (s.response.templates[n].state = .claiming →
          s.response.claimCount n = 1 ∧ s.response.templates[n].mode = .oneShot)

/-! ### Time and reset (R3, R186) -/

/-- A saturated timebase has fraction 0, and no trim of before a step is held for an advance (R3, R5; log
entry 29). -/
abbrev TimeInv (s : State) : Prop :=
  s.timebase.saturated = true → s.timebase.fraction = 0 ∧ s.timebase.heldTrim = none

/-- While RESET_N is asserted every block holds its power-on values, but for the marks and requests of
bursts being carried to completion (R186, R190). -/
abbrev ResetInv (s : State) : Prop :=
  s.resetAsserted = true →
    s.timebase = Timebase.reset ∧ s.table = Table.reset ∧ s.seq = Sequencer.reset
      ∧ s.lines = LineUnit.reset ∧ s.capture = CaptureUnit.reset
      ∧ s.response = ResponseUnit.reset
      ∧ s.report = { ReportUnit.reset with
          ring := { Ring.reset with abandoned := s.report.ring.abandoned } }
      ∧ s.aring = { AdmissionRing.reset with
          ring := { Ring.reset with abandoned := s.aring.ring.abandoned } }
      ∧ s.port = CommandPort.reset ∧ s.irq = InterruptUnit.reset
      ∧ s.bus.masterEnable = false ∧ s.bus.narrowFlag = false ∧ s.bus.grantMark = .report

end Sys2Proof.Machine
end

