-- ==== Sys2Proof/Certificates/Slice0/Obligations.lean ====
section
/-! DEFINITION. The statements about the part, for the provers. They speak of the part's own rules; a clause
that rests on a choice of the model names its log entry. -/

namespace Sys2Proof.Machine

/-! ### Words the statements share -/

/-- RESET_N is deasserted. -/
abbrev Awake (s : State) : Prop := s.resetAsserted = false

/-- RESET_N is deasserted and the command buffer holds `c` with the words `w`. -/
abbrev Issues (s : State) (c : Command) (w : Words8) : Prop :=
  s.resetAsserted = false ∧ s.port.buffer = some { command := c, words := w }

/-- The command port after the posting of `code`, `v0` and `v1` for the command `c` (R173). -/
abbrev posted (s : State) (c : Command) (code : ResultCode) (v0 v1 : Word) : CommandPort :=
  { s.port with
    buffer := none, result := code, resultCommand := c.code, value0 := v0, value1 := v1
    completions := s.port.completions + 1 }

/-- The 64-bit argument of TIME_STEP and TIME_SET (R7, R9). -/
abbrev argument64 (w : Words8) : Nat := w[0].toNat + 2 ^ 32 * w[1].toNat

/-- The interrupt unit with a cause set where a condition holds. -/
abbrev InterruptUnit.setIf (u : InterruptUnit) (b : Prop) [Decidable b] (c : Cause) : InterruptUnit :=
  if b then { u with causes := u.causes ||| c.bit } else u

/-- The engine after an occupancy-fall signal, given where occupancy falls from that of `old` to that of
`new` (R38, R162). -/
abbrev afterFall (a : AdmissionRing) (old new : List Entry) : AdmissionRing :=
  if occupancyOf new < occupancyOf old ∧ a.state = .held then { a with retry := true } else a

/-- The blocks no taking touches are as they were (R45). -/
abbrev TakingKeeps (s t : State) : Prop :=
  t.timebase = s.timebase ∧ t.capture = s.capture ∧ t.response = s.response ∧ t.port = s.port
    ∧ t.bus = s.bus ∧ t.resetAsserted = s.resetAsserted ∧ t.periodDraws = s.periodDraws
    ∧ t.pending = s.pending

/-- What one taking claim leaves (R45, R66, R78, R79): the entries `es`, the line unit `lines`, its own
notices and after them TABLE_EMPTY and SEQ_STOPPED where they are due, the causes LATE and SEQ_STOP, and
everything else as it was. `work` says that the entry taken is no TRAIL. -/
def TakingLeaves (s t : State) (es : List Entry) (lines : LineUnit) (own : List NoticeBody)
    (late work : Bool) : Prop :=
  let ends := work && s.seq.state == .single
  let bodies := own ++ (if s.seq.emptyReport && es.isEmpty then [.tableEmpty] else [])
    ++ (if ends then [.seqStopped .single] else [])
  t.table = { s.table with entries := es }
    ∧ t.lines = lines
    ∧ t.seq = (if ends then { s.seq with state := .stopped, stopCause := .single } else s.seq)
    ∧ t.report = (offerAll bodies s).report
    ∧ t.irq = ((offerAll bodies s).irq.setIf (late = true) .late).setIf (ends = true) .seqStop
    ∧ t.aring = afterFall s.aring s.table.entries es
    ∧ TakingKeeps s t

/-- `e` is the entry the next taking names, and `rest` the table without it: the head in RUNNING and
SINGLE; in STOPPED the earliest TRAIL entry whose due has come (R45, R65). -/
def TakesNext (s : State) (e : Entry) (rest : List Entry) : Prop :=
  e.due.toNat ≤ s.timebase.integer.toNat ∧
    ((s.seq.state ≠ .stopped ∧ s.table.entries = e :: rest) ∨
      (s.seq.state = .stopped ∧ e.action = .trail ∧
        ∃ before after, s.table.entries = before ++ e :: after ∧ rest = before ++ after ∧
          ∀ x ∈ before, x.action = .trail → s.timebase.integer.toNat < x.due.toNat))

/-- The kind code of a candidate (Table 11-5). -/
abbrev kindNumber (w : Words8) : Nat := (w[0].extractLsb' 16 8).toNat

/-- The lines of a candidate (Table 11-5). -/
abbrev candidateLines (w : Words8) : LineMask := w[0].extractLsb' 0 16

/-- Check 3 of R29 fails: the report encoding, param A or param B (R24, R25). -/
abbrev BadParameter (w : Words8) : Prop :=
  (w[0].extractLsb' 26 2).toNat = 3
    ∨ (kindNumber w = 4 ∧ (w[4].toNat = 0 ∨ 2 ^ 24 - 1 < w[4].toNat))
    ∨ (kindNumber w = 5 ∧
        (w[4].toNat < 2 ∨ 2 ^ 24 < w[4].toNat ∨ w[4].toNat < w[5].toNat))
    ∨ (kindNumber w = 7 ∧ (1 < w[4].toNat ∨ 1 < w[5].toNat))

/-- Check 4 of R29 fails (R26). -/
abbrev BadRepeat (w : Words8) : Prop :=
  w[0].getLsbD 28 = true ∧
    (w[6].toNat = 0 ∨ (kindNumber w = 4 ∧ w[6].toNat ≤ w[4].toNat))

/-- The due or offset of a candidate (Table 11-5). -/
abbrev dueOrOffset (w : Words8) : Nat := w[2].toNat + 2 ^ 32 * (w[3].toNat % 2 ^ 24)

/-- Check 5 of R29 fails for a claim at `base` (R20). -/
abbrev BadTime (w : Words8) (base : Time) : Prop :=
  w[0].getLsbD 24 = true ∧ 2 ^ 56 - 1 < base.toNat + dueOrOffset w

/-- The slots a candidate needs (R28). -/
abbrev slotsFor (w : Words8) : Nat := if kindNumber w = 4 then 2 else 1

/-- Checks 1 and 2 of R29 pass: an admissible kind, and a line unless the kind is MARK (R18, R19). -/
abbrev GoodKind (w : Words8) : Prop := 1 ≤ kindNumber w ∧ kindNumber w ≤ 8

/-- Check 2 of R29 passes (R19). -/
abbrev GoodLines (w : Words8) : Prop := kindNumber w = 8 ∨ candidateLines w ≠ 0

/-- The action that the kind code and the parameters of the words name (R18, R25, Table 11-5). -/
def NamesAction (w : Words8) (a : Action) : Prop :=
  (kindNumber w = 1 → a = .set) ∧ (kindNumber w = 2 → a = .clear) ∧ (kindNumber w = 3 → a = .toggle)
    ∧ (kindNumber w = 4 → ∃ width, a = .pulse width ∧ width.toNat = w[4].toNat)
    ∧ (kindNumber w = 5 → ∃ p, a = .patternLoad p ∧ p.period.toNat = w[4].toNat
        ∧ p.high.toNat = w[5].toNat)
    ∧ (kindNumber w = 6 → a = .patternStart)
    ∧ (kindNumber w = 7 →
        a = .patternStop (if w[4].toNat = 0 then .now else .atBoundary) (decide (w[5].toNat = 1)))
    ∧ (kindNumber w = 8 → a = .mark)

/-- The report option that bits 27:26 of word 0 name (R24, Table 11-5). -/
def NamesReport (w : Words8) (r : ReportOption) : Prop :=
  let code := (w[0].extractLsb' 26 2).toNat
  (code = 0 → r = .none) ∧ (code = 1 → r = .each) ∧ (code = 2 → r = .final)

/-! ### Reset values, written out -/

/-- Table 1-4: the timebase unit after power-on; no trim is held from before a step (log entry 29). -/
abbrev timebaseAtPowerOn : Timebase :=
  { integer := 0, fraction := 0, trimActive := 0, heldTrim := none, trimPending := 0, lateMargin := 4
    snapshotHold := 0 }

/-- Table 3-2 and R36: the table controller after either reset. -/
abbrev tableAtReset : Table := { entries := [], serialNext := 0, headHold := 0, queryHold := 0 }

/-- R82: the sequencer after either reset. -/
abbrev sequencerAtReset : Sequencer := { state := .stopped, stopCause := .reset, emptyReport := false }

/-- R107 and R108: the line unit after either reset; `seen` is the synchronised level of FAULT_N (log
entry 6), and the next period start of a stopped generator is the model's value (log entry 8). -/
abbrev linesAtReset (seen : Bool) : LineUnit :=
  { level := 0, polarity := 0, safe := 0, gateOpen := false, faultLatch := false
    faultEnable := false, faultSeen := seen
    gens := Vector.replicate 16
      { running := false, active := ⟨2, 0⟩, shadow := ⟨2, 0⟩, start := 0, nextStart := 0
        reloadPending := false, pendingStop := none }
    faultEvents := 0, faultClaims := 0 }

/-- Table 6-2: the capture unit after either reset. -/
abbrev captureAtReset : CaptureUnit :=
  { inputs := Vector.replicate 8
      { sync := none, enable := false, select := .rise, holdoff := 0, lastAccepted := none
        seq := 0, supp := 0, lost := 0 }
    log := [] }

/-- Table 6-2: the response unit after either reset; no kind stands for the kind code 0 (log entry 21). -/
abbrev responseAtReset : ResponseUnit :=
  { templates := Vector.replicate 8
      { state := .empty
        fields := { kind := none, lines := 0, tag := 0, late := .fireLate, report := .none
                    paramA := 0, paramB := 0 }
        delay := 0, mode := .oneShot }
    claims := [] }

/-- R151 and R170: the words of a ring after either reset. -/
abbrev ringAtReset (abandoned : Bool) : Ring :=
  { base := 0, size := 16, prod := 0, cons := 0, enable := false, disablePending := false
    ignoredWrite := false, enableRefused := false, abandoned := abandoned }

/-- R151: the report unit after either reset; the wait start is the model's value (log entry 15). -/
abbrev reportAtReset (abandoned : Bool) : ReportUnit :=
  { notices := [], noticeLoss := 0, state := .disabled, ring := ringAtReset abandoned
    inFlight := none, lastSource := .capture, threshold := 1, delay := 0, count := 0
    waitStart := 0 }

/-- R170: the admission ring engine after either reset. -/
abbrev aringAtReset (abandoned : Bool) : AdmissionRing :=
  { state := .disabled, ring := ringAtReset abandoned, buffer := none, fetch := .idle
    retry := false }

/-- R179: the command port after either reset. -/
abbrev portAtReset : CommandPort :=
  { staging := #v[0, 0, 0, 0, 0, 0, 0, 0], buffer := none, result := .ok, resultCommand := 0
    value0 := 0, value1 := 0, completions := 0, overrun := false }

/-- Table 10-2: the interrupt unit after either reset. -/
abbrev irqAtReset : InterruptUnit :=
  { causes := 0, enables := 0, haltReport := false, haltAdmission := false }

/-- The commands that go on while RESET_N is asserted: the two reset rows, the two reads, which return 0,
and the master port's rows (R186, R190). -/
def goesOnInReset : Instr → Prop
  | .powerOnReset | .resetNDeassertion | .timeLoRead | .headDueLoRead | .burstGrant
  | .reportWriteDone | .reportWriteError | .fetchDone _ | .fetchError => True
  | _ => False

/-- A full-word write of the register `r` with `v` by a row that is not the register's own (log entry 4). -/
abbrev WritesByOffset (c : Instr) (r : Reg) (v : Word) : Prop :=
  ∃ offset, Reg.ofOffset offset = some r
    ∧ (c = .registerWrite offset v ∨ c = .narrowWrite offset 0xF v)

/-! ### What the window shows (Tables 11-1 and 11-2) -/

/-- A bit of a word. -/
abbrev one (b : Bool) : BitVec 1 := BitVec.ofBool b

/-- A word made of fields, the lowest last; the positions above them are 0. -/
abbrev fields {n : Nat} (x : BitVec n) : Word := x.setWidth 32

/-- The bus interface, the interrupt unit and the command port in the window. -/
def ShowsPort (s : State) : Prop :=
  s.readOffset 0x000 = fields (0x2B#8 ++ 0x1608#16 ++ 0x01#8)
    ∧ s.readOffset 0x004 = fields (one s.bus.masterEnable)
    ∧ s.readOffset 0x008 = fields (one s.bus.narrowFlag)
    ∧ s.readOffset 0x010 =
        fields (one s.irq.haltAdmission ++ one s.irq.haltReport ++ 0#6 ++ s.irq.causes)
    ∧ s.readOffset 0x014 = fields s.irq.enables
    ∧ s.readOffset 0x018 = fields (s.irq.causes &&& s.irq.enables)
    ∧ (∀ n : Fin 8, s.readOffset (BitVec.ofNat 10 (0x020 + 4 * n.val)) = s.port.staging[n])
    ∧ s.readOffset 0x040 = 0
    ∧ s.readOffset 0x044 =
        fields (one s.port.overrun ++ one s.port.buffer.isSome ++ s.port.completions
          ++ s.port.resultCommand ++ s.port.result.code)
    ∧ s.readOffset 0x048 = s.port.value0 ∧ s.readOffset 0x04C = s.port.value1

/-- The result and reason codes (Table 11-3). -/
def ShowsCodes : Prop :=
  [ResultCode.ok, .badCommand, .badKind, .noLines, .badParam, .badRepeat, .badTime, .tableFull, .state,
    .pulsePending, .linesBusy, .faultActive, .badIndex].map (fun r => r.code.toNat) = List.range 13

/-- The positions of the ten causes (Table 11-2). -/
def ShowsCauses : Prop :=
  [Cause.report, .admitHeld, .admitReject, .ringError, .captureLoss, .noticeLoss, .late, .fault, .seqStop,
    .timeLimit].map (fun c => c.bit.toNat) = [1, 2, 4, 8, 16, 32, 64, 128, 256, 512]

/-- The eighteen commands and their codes (Table 11-4). -/
def NamesCommands : Prop :=
  [Command.admitCandidate, .cancelTag, .cancelLines, .flush, .queryTag].map (·.code) =
      [0x01#8, 0x02#8, 0x03#8, 0x04#8, 0x05#8]
    ∧ [Command.seqRun, .seqStop, .seqSingle].map (·.code) = [0x10#8, 0x11#8, 0x12#8]
    ∧ [Command.timeSet, .timeStep, .trimSet].map (·.code) = [0x20#8, 0x21#8, 0x22#8]
    ∧ [Command.gateOpen, .gateClose, .faultClear, .lineWrite].map (·.code) =
      [0x30#8, 0x31#8, 0x32#8, 0x33#8]
    ∧ [Command.responseLoad, .responseArm, .responseDisarm].map (·.code) =
      [0x40#8, 0x41#8, 0x42#8]

/-- The timebase unit, the table controller and the sequencer in the window. -/
def ShowsTime (s : State) : Prop :=
  s.readOffset 0x060 = s.timebase.integer.extractLsb' 0 32
    ∧ s.readOffset 0x064 = fields s.timebase.snapshotHold
    ∧ s.readOffset 0x068 = BitVec.ofInt 32 s.timebase.trimActive.toInt
    ∧ s.readOffset 0x06C = BitVec.ofInt 32 s.timebase.trimPending.toInt
    ∧ s.readOffset 0x070 = fields s.timebase.lateMargin
    ∧ (s.table.entries = [] → s.readOffset 0x084 = 0xFFFFFFFF#32)
    ∧ (∀ e rest, s.table.entries = e :: rest → s.readOffset 0x084 = e.due.extractLsb' 0 32)
    ∧ s.readOffset 0x088 = fields s.table.headHold
    ∧ s.readOffset 0x08C = s.table.serialNext
    ∧ s.readOffset 0x090 = fields s.table.queryHold
    ∧ s.readOffset 0x098 =
        fields ((match s.seq.stopCause with
          | .reset => 0#2 | .command => 1#2 | .single => 2#2 | .fault => 3#2)
        ++ 0#2 ++ (match s.seq.state with | .stopped => 0#2 | .running => 1#2 | .single => 2#2))
    ∧ s.readOffset 0x09C = fields (one s.seq.emptyReport)

/-- The line unit and the generators in the window. -/
def ShowsLines (s : State) : Prop :=
  s.readOffset 0x0A0 = fields s.lines.polarity ∧ s.readOffset 0x0A4 = fields s.lines.safe
    ∧ s.readOffset 0x0AC = fields s.levels ∧ s.readOffset 0x0B0 = fields s.pins
    ∧ s.readOffset 0x0B4 = fields (one s.lines.faultEnable)
    ∧ s.readOffset 0x0B8 =
        fields (one s.lines.faultSeen ++ one s.lines.faultLatch ++ one s.lines.gateOpen)
    ∧ (s.readOffset 0x0A8).extractLsb' 16 16 = 0#16 ∧ (s.readOffset 0x0C0).extractLsb' 16 16 = 0#16
    ∧ ∀ n : Fin 16,
      (s.readOffset 0x0A8).getLsbD n = s.lines.gens[n].running
        ∧ (s.readOffset 0x0BC).getLsbD n = s.lines.gens[n].reloadPending
        ∧ (s.readOffset 0x0BC).getLsbD (16 + n) = s.lines.gens[n].pendingStop.isSome
        ∧ (s.readOffset 0x0C0).getLsbD n = (s.lines.gens[n].pendingStop == some true)
        ∧ s.readOffset (BitVec.ofNat 10 (0x100 + 4 * n.val)) = fields s.lines.gens[n].active.period
        ∧ s.readOffset (BitVec.ofNat 10 (0x140 + 4 * n.val)) = fields s.lines.gens[n].active.high

/-- The capture unit and the response unit in the window. -/
def ShowsCapture (s : State) : Prop :=
  (s.readOffset 0x180).extractLsb' 8 24 = 0#24
    ∧ s.readOffset 0x184 = BitVec.ofNat 32 s.capture.log.length
    ∧ ∀ n : Fin 8,
      let l := s.capture.inputs[n]
      let word := s.readOffset 0x188
      (s.readOffset 0x180).getLsbD n = (l.sync == some true)
        ∧ word.extractLsb' (4 * n.val) 2 = (match s.response.templates[n].state with
            | .empty => 0#2 | .disarmed => 1#2 | .armed => 2#2 | .claiming => 3#2)
        ∧ (word.getLsbD (4 * n.val + 2) = true ↔ ∃ c ∈ s.response.claims, c.line = n)
        ∧ word.getLsbD (4 * n.val + 3) = false
        ∧ s.readOffset (BitVec.ofNat 10 (0x1A0 + 4 * n.val)) =
            fields (l.holdoff ++ 0#10
              ++ (match l.select with | .rise => 0#2 | .fall => 1#2 | .both => 2#2)
              ++ 0#3 ++ one l.enable)
        ∧ s.readOffset (BitVec.ofNat 10 (0x1C0 + 4 * n.val)) = l.seq
        ∧ s.readOffset (BitVec.ofNat 10 (0x1E0 + 4 * n.val)) = fields l.supp
        ∧ s.readOffset (BitVec.ofNat 10 (0x200 + 4 * n.val)) = l.lost

/-- The two rings in the window, the notice-loss field limited as R196 says. -/
def ShowsRings (s : State) : Prop :=
  s.readOffset 0x240 =
      fields (BitVec.ofNat 24 (min s.report.noticeLoss.toNat (2 ^ 24 - 1))
        ++ BitVec.ofNat 8 s.report.notices.length)
    ∧ s.readOffset 0x244 = s.report.ring.base
    ∧ s.readOffset 0x248 = BitVec.ofNat 32 s.report.ring.size
    ∧ s.readOffset 0x24C = BitVec.ofNat 32 s.report.ring.prod
    ∧ s.readOffset 0x250 = BitVec.ofNat 32 s.report.ring.cons
    ∧ s.readOffset 0x254 = fields (one s.report.ring.enable)
    ∧ s.readOffset 0x258 =
        fields (one s.report.ring.enableRefused ++ one s.report.ring.ignoredWrite ++ 0#2
          ++ one s.report.inFlight.isSome ++ one s.report.ring.disablePending ++ 0#2
          ++ (match s.report.state with
            | .disabled => 0#2 | .running => 1#2 | .full => 2#2 | .halted => 3#2))
    ∧ s.readOffset 0x25C =
        fields (BitVec.ofNat 21 s.report.delay ++ BitVec.ofNat 8 s.report.threshold)
    ∧ s.readOffset 0x260 = BitVec.ofNat 32 s.report.count
    ∧ s.readOffset 0x280 = s.aring.ring.base
    ∧ s.readOffset 0x284 = BitVec.ofNat 32 s.aring.ring.size
    ∧ s.readOffset 0x288 = BitVec.ofNat 32 s.aring.ring.prod
    ∧ s.readOffset 0x28C = BitVec.ofNat 32 s.aring.ring.cons
    ∧ s.readOffset 0x290 = fields (one s.aring.ring.enable)
    ∧ s.readOffset 0x294 =
        fields (one s.aring.ring.enableRefused ++ one s.aring.ring.ignoredWrite ++ 0#1
          ++ one s.aring.retry ++ one (s.aring.fetch != .idle) ++ one s.aring.ring.disablePending
          ++ 0#2 ++ (match s.aring.state with
            | .disabled => 0#2 | .running => 1#2 | .held => 2#2 | .halted => 3#2))

end Sys2Proof.Machine

section

open Sys2Proof Sys2Proof.Machine

/-! ### The step -/

/-- The front command is taken with the queue's rest; on an empty queue the part idles, which is the
model's choice (log entry 2). -/
def Obligations.StepTakesFrontCommand : Prop :=
  (∀ (c : Instr) (rest : List Instr) (s : State),
      step { s with pending := c :: rest } = exec c { s with pending := rest })
    ∧ ∀ s : State, s.pending = [] → step s = .next s

/-- Every command is answered with a next state, and none touches the queue. It says of no command what its
effect is. That an event's command with no occasion is answered is the model's choice (log entry 1), and so
is that a row whose operands do not fit is (log entry 4) and that a reset leaves the queue (log entry 23). -/
def Obligations.EveryCommandIsAnswered : Prop :=
  ∀ (c : Instr) (s : State), ∃ t, exec c s = .next t ∧ t.pending = s.pending

/-! ### Invariants -/

/-- The part just after reset: every value of Tables 1-4 to 10-2 written out, every word of the window at
the power-on value of Table 11-1, and every invariant (R15, R36, R59, R82, R107, R108, R129, R130, R151,
R170, R179, R194; log entries 5, 6, 8, 15, 17 and 29 for the values the spec leaves open). -/
def Obligations.InvariantsHoldAtReset : Prop :=
  State.reset =
    { timebase := timebaseAtPowerOn, table := tableAtReset, seq := sequencerAtReset
      lines := linesAtReset false, capture := captureAtReset, response := responseAtReset
      report := reportAtReset false, aring := aringAtReset false, port := portAtReset
      irq := irqAtReset
      bus :=
        { masterEnable := false, narrowFlag := false, grantMark := .report
          admissionSlot := none, reportSlot := none, onBus := none, readData := 0 }
      resetAsserted := false, periodDraws := 0, pending := [] } ∧
  (∀ k : Fin 256, State.reset.readOffset (BitVec.ofNat 10 (4 * k.val)) =
    if k.val = 0x000 / 4 then 0x2B160801#32
    else if k.val = 0x070 / 4 then 4#32
    else if k.val = 0x080 / 4 then 0x10000000#32
    else if k.val = 0x084 / 4 then 0xFFFFFFFF#32
    else if 0x100 / 4 ≤ k.val ∧ k.val ≤ 0x13C / 4 then 2#32
    else if k.val = 0x248 / 4 ∨ k.val = 0x284 / 4 then 0x10#32
    else if k.val = 0x25C / 4 then 1#32
    else 0#32) ∧
  TableInv State.reset ∧ GeneratorInv State.reset ∧ QueueInv State.reset ∧ RingInv State.reset
    ∧ ReportInv State.reset ∧ AringInv State.reset ∧ ResponseInv State.reset
    ∧ TimeInv State.reset ∧ ResetInv State.reset

/-- Every step keeps the action table in due order, its entries well formed, and entries plus
reservations within 256. -/
def Obligations.TableInvariantIsKept : Prop :=
  ∀ s t : State, TableInv s → step s = .next t → TableInv t

/-- Every step keeps every generator's pairs in range, a stopped generator's active pair equal to its
shadow pair with nothing pending, and a running one on its grid (log entries 8 and 9 for the next period
start). -/
def Obligations.GeneratorInvariantIsKept : Prop :=
  ∀ s t : State, TableInv s → GeneratorInv s → step s = .next t → GeneratorInv t

/-- Every step keeps at most 32 notices and 64 capture records, a full queue while lost notices are
counted, and the coalescing numbers in range. -/
def Obligations.QueueInvariantIsKept : Prop :=
  ∀ s t : State, QueueInv s → step s = .next t → QueueInv t

/-- Every step keeps both rings' sizes among the nine, their indices below the size, their bases
multiples of 64, and every requested address a multiple of 32. -/
def Obligations.RingInvariantIsKept : Prop :=
  ∀ s t : State, RingInv s → step s = .next t → RingInv t

/-- Every step keeps the report ring's state, enable, marks, write in flight and request in agreement. An
abandoned write has a request in its slot or a burst on the bus, or its slot was emptied by a power-on reset,
which only the value true of the free Config.powerOnWithdraws allows (log entry 10). -/
def Obligations.ReportInvariantIsKept : Prop :=
  ∀ s t : State, ReportInv s → step s = .next t → ReportInv t

/-- Every step keeps the admission ring engine's state, enable, buffer, fetch, retry claim and request in
agreement (log entries 12 and 13 for a waiting claim). An abandoned fetch has a request in its slot or a
burst on the bus, or its slot was emptied by a power-on reset, which only the value true of the free
Config.powerOnWithdraws allows (log entry 10). -/
def Obligations.AringInvariantIsKept : Prop :=
  ∀ s t : State, AringInv s → step s = .next t → AringInv t

/-- Every step keeps the template states and the outstanding claims in agreement: an EMPTY template holds
its reset values and has no claim, a CLAIMING one is ONE_SHOT with one claim, and an ARMED ONE_SHOT one has
none. Whatever the arm mode, no step makes a template ARMED while a claim of it stays outstanding, and a
RESPONSE_ARM answered OK finds none outstanding (R122, R126; log entry 21 for the fields of an EMPTY
template). -/
def Obligations.ResponseInvariantIsKept : Prop :=
  (∀ s t : State, ResponseInv s → step s = .next t → ResponseInv t)
    ∧ (∀ (s t : State) (n : Fin 8), ResponseInv s → step s = .next t →
        s.response.templates[n].state ≠ .armed → t.response.templates[n].state = .armed →
        t.response.claimCount n = 0)
    ∧ ∀ (s t : State) (w : Words8) (n : Fin 8), Issues s .responseArm w → w[0].toNat = n.val →
        exec .responseArm s = .next t → t.port.result = .ok →
        s.response.claimCount n = 0 ∧ t.response.claimCount n = 0

/-- Every step keeps the fraction of a saturated timebase at 0 and no trim held in it, and the power-on values while RESET_N is
asserted (log entry 10 for the grant mark, log entry 29 for the held trim). -/
def Obligations.SaturationAndResetInvariantsAreKept : Prop :=
  (∀ s t : State, TimeInv s → step s = .next t → TimeInv t)
    ∧ ∀ s t : State, ResetInv s → step s = .next t → ResetInv t

/-! ### Timebase -/

/-- One TCLK period below saturation: the new fraction and integer of R2, the trim and its notice at a
boundary crossing (R5), and nothing else changed. The trim added is the active one, or the one that a step of
this TCLK period made inactive (log entry 29). -/
def Obligations.AdvanceAddsTickAndTrim : Prop :=
  ∀ s : State, Awake s →
    let v := s.timebase.integer.toNat
    let trim := s.timebase.heldTrim.getD s.timebase.trimActive
    let sum : Int := s.timebase.fraction.toNat + 2 ^ 24 + trim.toInt
    let x := v + (sum / 2 ^ 24).toNat
    let moved : Timebase :=
      { s.timebase with
        integer := BitVec.ofNat 56 x, fraction := BitVec.ofNat 24 (sum % 2 ^ 24).toNat
        heldTrim := none }
    (sum < 2 ^ 24 → x = v) ∧ (2 ^ 24 ≤ sum → sum < 2 ^ 25 → x = v + 1)
      ∧ (2 ^ 25 ≤ sum → x = v + 2)
      ∧ (v < 2 ^ 56 - 1 → x < 2 ^ 56 - 1 →
          ((x / 2 ^ 20 = v / 2 ^ 20 ∨ s.timebase.trimPending = s.timebase.trimActive) →
            exec .timebaseAdvance s = .next { s with timebase := moved })
          ∧ (x / 2 ^ 20 ≠ v / 2 ^ 20 → s.timebase.trimPending ≠ s.timebase.trimActive →
            exec .timebaseAdvance s = .next
              { s with
                timebase := { moved with trimActive := s.timebase.trimPending }
                report := s.report.offer
                  { time := BitVec.ofNat 56 x, body := .trimApplied s.timebase.trimPending }
                irq := s.irq.setIf (s.report.notices.length ≥ 32) .noticeLoss }))

/-- An advance to or beyond 2^56-1 stops there with fraction 0 and sets TIME_LIMIT, and a saturated
timebase does not advance (R3). The trim added is as log entry 29 says. -/
def Obligations.AdvanceStopsAtSaturation : Prop :=
  ∀ s : State, Awake s →
    let v := s.timebase.integer.toNat
    let trim := s.timebase.heldTrim.getD s.timebase.trimActive
    let sum : Int := s.timebase.fraction.toNat + 2 ^ 24 + trim.toInt
    (v = 2 ^ 56 - 1 → exec .timebaseAdvance s = .next s)
      ∧ (v < 2 ^ 56 - 1 → 2 ^ 56 - 1 ≤ v + (sum / 2 ^ 24).toNat →
          exec .timebaseAdvance s = .next
            { s with
              timebase := { s.timebase with
                integer := BitVec.allOnes 56, fraction := 0, heldTrim := none }
              irq := { s.irq with causes := s.irq.causes ||| Cause.timeLimit.bit } })

/-- TIME_STEP: its two refusals in order; otherwise the integer moves by the step, the fraction stays
(log entry 25 at 2^56-1), one crossing at most is acted on, and the two words of the new integer are
answered. A running generator whose next period start lies below the new integer takes the first point of
its grid at or after it, and nothing else of any generator changes (log entry 9). A step that makes another
trim active may hold the one of before for the advance of its TCLK period, which is a free value, and unless
saturation intervenes a step and an advance of one trim leave the same integer, fraction and trims in both
orders (log entry 29). A step that saturates leaves no trim held (R3). -/
def Obligations.TimeStepMovesTheInteger : Prop :=
  (∀ (s t u a b : State) (w : Words8), Issues s .timeStep w →
    0 < argument64 w → argument64 w ≤ 2 ^ 40 - 1 →
    s.timebase.integer.toNat + argument64 w + 2 < 2 ^ 56 - 1 →
    exec .timeStep s = .next t → exec .timebaseAdvance t = .next u →
    exec .timebaseAdvance s = .next a → exec .timeStep a = .next b →
    t.timebase.heldTrim.getD t.timebase.trimActive =
      s.timebase.heldTrim.getD s.timebase.trimActive →
    u.timebase.integer = b.timebase.integer ∧ u.timebase.fraction = b.timebase.fraction
      ∧ u.timebase.trimActive = b.timebase.trimActive
      ∧ u.timebase.trimPending = b.timebase.trimPending)
  ∧ ∀ (s : State) (w : Words8), Issues s .timeStep w →
    let d := argument64 w
    let v := s.timebase.integer.toNat
    let x := v + d
    (d = 0 ∨ 2 ^ 40 - 1 < d →
        exec .timeStep s = .next { s with port := posted s .timeStep .badParam 0 0 })
      ∧ (0 < d → d ≤ 2 ^ 40 - 1 → 2 ^ 56 - 1 < x →
        exec .timeStep s = .next { s with port := posted s .timeStep .badTime 0 0 })
      ∧ (0 < d → d ≤ 2 ^ 40 - 1 → x ≤ 2 ^ 56 - 1 →
        let crossed := x / 2 ^ 20 ≠ v / 2 ^ 20 ∧ s.timebase.trimPending ≠ s.timebase.trimActive
        ∃ gens : Vector Generator 16,
        (∀ n : Fin 16,
          let g := s.lines.gens[n]
          let onGrid (N : Nat) : Prop := ∃ j, N = g.start.toNat + j * g.active.period.toNat
          (g.running = false ∨ x ≤ g.nextStart → gens[n] = g)
            ∧ (g.running = true → g.nextStart < x → 2 ≤ g.active.period.toNat →
              ∃ N, gens[n] = { g with nextStart := N } ∧ onGrid N ∧ x ≤ N
                ∧ ∀ M, onGrid M → x ≤ M → N ≤ M)) ∧
        exec .timeStep s = .next
          { s with
            timebase := { s.timebase with
              integer := BitVec.ofNat 56 x
              fraction := if x = 2 ^ 56 - 1 then 0 else s.timebase.fraction
              trimActive := if crossed then s.timebase.trimPending else s.timebase.trimActive
              heldTrim := if x = 2 ^ 56 - 1 then none
                else if crossed then
                  s.timebase.heldTrim.or
                    (if Config.stepSharesPeriod s.periodDraws then some s.timebase.trimActive
                    else none)
                else s.timebase.heldTrim }
            periodDraws := if crossed ∧ x ≠ 2 ^ 56 - 1 then s.periodDraws + 1 else s.periodDraws
            lines := { s.lines with gens := gens }
            report := if crossed then
                s.report.offer
                  { time := BitVec.ofNat 56 x, body := .trimApplied s.timebase.trimPending }
              else s.report
            irq := (s.irq.setIf (x = 2 ^ 56 - 1) .timeLimit).setIf
              (crossed ∧ s.report.notices.length ≥ 32) .noticeLoss
            port := posted s .timeStep .ok (BitVec.ofNat 32 x) (BitVec.ofNat 32 (x / 2 ^ 32)) })

/-- TIME_SET: the four checks of R9 in order; otherwise R10's values, TIME_LIMIT on reaching 2^56-1, and
no effect but the answer where the timebase is already saturated there (log entry 24). A set that saturates
leaves no trim of before a step held (R3, R5; log entry 29). -/
def Obligations.TimeSetPlacesTheInteger : Prop :=
  ∀ (s : State) (w : Words8), Issues s .timeSet w →
    let v := argument64 w
    let refused (r : ResultCode) : Prop :=
      exec .timeSet s = .next { s with port := posted s .timeSet r 0 0 }
    let trail := ∃ e ∈ s.table.entries, e.action = .trail
    let busy := ∃ n : Fin 16, s.lines.gens[n].running = true
    (2 ^ 56 - 1 < v → refused .badTime)
      ∧ (v ≤ 2 ^ 56 - 1 → s.seq.state ≠ .stopped → refused .state)
      ∧ (v ≤ 2 ^ 56 - 1 → s.seq.state = .stopped → trail → refused .pulsePending)
      ∧ (v ≤ 2 ^ 56 - 1 → s.seq.state = .stopped → ¬ trail → busy → refused .linesBusy)
      ∧ (v ≤ 2 ^ 56 - 1 → s.seq.state = .stopped → ¬ trail → ¬ busy →
        let port := posted s .timeSet .ok (BitVec.ofNat 32 v) (BitVec.ofNat 32 (v / 2 ^ 32))
        if v = 2 ^ 56 - 1 ∧ s.timebase.integer.toNat = 2 ^ 56 - 1 then
          exec .timeSet s = .next { s with port := port }
        else
          exec .timeSet s = .next
            { s with
              timebase := { s.timebase with
                integer := BitVec.ofNat 56 v, fraction := 0
                heldTrim := if v = 2 ^ 56 - 1 then none else s.timebase.heldTrim }
              irq := s.irq.setIf (v = 2 ^ 56 - 1) .timeLimit
              port := port })

/-- TRIM_SET: out of range it is refused; otherwise the pending trim alone takes the value, and both
trims are answered (R6). -/
def Obligations.TrimSetStoresThePendingTrim : Prop :=
  ∀ (s : State) (w : Words8), Issues s .trimSet w →
    (w[0].toInt < -32768 ∨ 32767 < w[0].toInt →
        exec .trimSet s = .next { s with port := posted s .trimSet .badParam 0 0 })
      ∧ (-32768 ≤ w[0].toInt → w[0].toInt ≤ 32767 →
        (w[0].setWidth 16).toInt = w[0].toInt
          ∧ exec .trimSet s = .next
            { s with
              timebase := { s.timebase with trimPending := w[0].setWidth 16 }
              port := posted s .trimSet .ok (s.timebase.trimActive.signExtend 32) w[0] })

/-- While the sequencer is RUNNING or SINGLE no command moves the integer backward, but for power-on
reset, which leaves the sequencer STOPPED (R1). -/
def Obligations.RunningTimeNeverFalls : Prop :=
  ∀ (c : Instr) (s t : State), s.seq.state ≠ .stopped → exec c s = .next t →
    s.timebase.integer.toNat ≤ t.timebase.integer.toNat
      ∨ (c = .powerOnReset ∧ t.seq.state = .stopped)

/-- The two reads with a side effect: the low word is returned and the upper 24 bits go into the hold,
which the other register then shows; nothing else changes (R11, R12, R57). While RESET_N is asserted a
read returns 0 and does nothing else (R186). The word returned stands in readData, the model's own field
(log entry 17). -/
def Obligations.LowWordReadsCaptureTheHold : Prop :=
  ∀ s : State,
    (Awake s →
      exec .timeLoRead s = .next
          { s with
            timebase := { s.timebase with snapshotHold := s.timebase.integer.extractLsb' 32 24 }
            bus := { s.bus with readData := s.timebase.integer.extractLsb' 0 32 } }
        ∧ (∀ due : Time,
            (s.table.entries = [] → due = BitVec.allOnes 56) →
            (∀ e rest, s.table.entries = e :: rest → due = e.due) →
            exec .headDueLoRead s = .next
              { s with
                table := { s.table with headHold := due.extractLsb' 32 24 }
                bus := { s.bus with readData := due.extractLsb' 0 32 } })
        ∧ s.readOffset 0x064 = s.timebase.snapshotHold.setWidth 32
        ∧ s.readOffset 0x088 = s.table.headHold.setWidth 32)
      ∧ (s.resetAsserted = true →
        exec .timeLoRead s = .next { s with bus := { s.bus with readData := 0 } }
          ∧ exec .headDueLoRead s = .next { s with bus := { s.bus with readData := 0 } })

/-! ### The action table -/

/-- The first failed check of R29 gives the reason; a candidate that passes all six becomes the entry
that R20, R26, R27 and R28 give, with the action and the report option that its words name by R18, R24, R25
and Table 11-5. -/
def Obligations.FirstFailedCheckDecides : Prop :=
  ∀ (w : Words8) (base : Time) (free : Nat) (serial : BitVec 32),
    let answer := (Candidate.ofWords w).validate base free serial
    let k := kindNumber w
    let kindOk := GoodKind w
    let linesOk := GoodLines w
    (¬ kindOk → answer = .error .badKind)
      ∧ (kindOk → ¬ linesOk → answer = .error .noLines)
      ∧ (kindOk → linesOk → BadParameter w → answer = .error .badParam)
      ∧ (kindOk → linesOk → ¬ BadParameter w → BadRepeat w → answer = .error .badRepeat)
      ∧ (kindOk → linesOk → ¬ BadParameter w → ¬ BadRepeat w → BadTime w base →
          answer = .error .badTime)
      ∧ (kindOk → linesOk → ¬ BadParameter w → ¬ BadRepeat w → ¬ BadTime w base →
          free < slotsFor w → answer = .error .tableFull)
      ∧ (kindOk → linesOk → ¬ BadParameter w → ¬ BadRepeat w → ¬ BadTime w base →
          slotsFor w ≤ free →
          ∃ e, answer = .ok e ∧ e.serial = serial ∧ e.tag = w[1].extractLsb' 0 16
            ∧ NamesAction w e.action ∧ NamesReport w e.report
            ∧ e.lines = (if k = 8 then 0 else candidateLines w)
            ∧ e.due.toNat =
                (if w[0].getLsbD 24 then base.toNat + dueOrOffset w else dueOrOffset w)
            ∧ e.reserved = decide (k = 4)
            ∧ (e.late = if w[0].getLsbD 25 then .dropLate else .fireLate)
            ∧ (e.rep.isSome = w[0].getLsbD 28)
            ∧ ∀ r ∈ e.rep, r.interval = w[6] ∧ r.count = w[1].extractLsb' 16 16
                ∧ r.remaining = if r.count = 0 then none else some r.count)

/-- ADMIT: a refusal posts the reason and changes nothing else; an admission places the entry, moves the
serial counter on by one, and answers the serial and the low word of the due (R27, R30, R49). -/
def Obligations.AdmitPlacesOrRefuses : Prop :=
  ∀ (s : State) (w : Words8), Issues s .admitCandidate w →
    let answer := (Candidate.ofWords w).validate s.timebase.integer
      (256 - occupancyOf s.table.entries) s.table.serialNext
    (∀ r, answer = .error r →
        exec .admitCandidate s = .next { s with port := posted s .admitCandidate r 0 0 })
      ∧ (∀ e, answer = .ok e →
        e.serial = s.table.serialNext
          ∧ exec .admitCandidate s = .next
            { s with
              table := { s.table with
                entries := insertEntry e s.table.entries
                serialNext := s.table.serialNext + 1 }
              port := posted s .admitCandidate .ok e.serial (e.due.extractLsb' 0 32) })

/-- An entry is placed after every entry due at or before its own due and before every later one, the
others keeping their order (R39, R40). -/
def Obligations.InsertionIsByDueThenOrder : Prop :=
  ∀ (e : Entry) (es : List Entry), es.Pairwise (fun a b => a.due.toNat ≤ b.due.toNat) →
    ∃ before after, es = before ++ after ∧ insertEntry e es = before ++ e :: after
      ∧ (∀ x ∈ before, x.due.toNat ≤ e.due.toNat) ∧ ∀ x ∈ after, e.due.toNat < x.due.toNat

/-- CANCEL_TAG, FLUSH and QUERY_TAG: what is removed or counted, the values answered, the holds, and the
occupancy-fall signal (R38, R48, R50, R54, R55). -/
def Obligations.TagCommandsActOnTheTable : Prop :=
  (∀ (s : State) (w : Words8), Issues s .cancelTag w →
    let goes (e : Entry) : Bool := e.action != .trail && e.tag == w[0].extractLsb' 0 16
    let kept := s.table.entries.filter fun e => !goes e
    exec .cancelTag s = .next
      { s with
        table := { s.table with entries := kept }
        aring := afterFall s.aring s.table.entries kept
        port := posted s .cancelTag .ok (BitVec.ofNat 32 (s.table.entries.countP goes))
          (BitVec.ofNat 32 (s.table.entries.countP fun e => goes e && e.reserved)) })
  ∧ (∀ (s : State) (w : Words8), Issues s .flush w →
    let goes (e : Entry) : Bool := e.action != .trail
    let kept := s.table.entries.filter fun e => !goes e
    exec .flush s = .next
      { s with
        table := { s.table with entries := kept }
        aring := afterFall s.aring s.table.entries kept
        port := posted s .flush .ok (BitVec.ofNat 32 (s.table.entries.countP goes))
          (BitVec.ofNat 32 (s.table.entries.countP fun e => goes e && e.reserved)) })
  ∧ (∀ (s : State) (w : Words8), Issues s .queryTag w →
    let found := s.table.entries.filter fun e => e.tag == w[0].extractLsb' 0 16
    ∃ due : Time,
      (found = [] → due = BitVec.allOnes 56)
        ∧ (found ≠ [] → ∃ e ∈ found, e.due = due)
        ∧ (∀ e ∈ found, due.toNat ≤ e.due.toNat)
        ∧ exec .queryTag s = .next
          { s with
            table := { s.table with queryHold := due.extractLsb' 32 24 }
            port := posted s .queryTag .ok (BitVec.ofNat 32 found.length)
              (due.extractLsb' 0 32) })

/-- CANCEL_LINES: refused without a line; otherwise each entry that is neither TRAIL nor MARK loses the
lines, an emptied one is removed, and both counts are answered (R52). -/
def Obligations.CancelLinesNarrowsOrRemoves : Prop :=
  ∀ (s : State) (w : Words8), Issues s .cancelLines w →
    let m : LineMask := w[0].extractLsb' 0 16
    let visited (e : Entry) : Bool := e.action != .trail && e.action != .mark
    let after := s.table.entries.filterMap fun e =>
      if visited e then
        if e.lines &&& ~~~ m = 0 then none else some { e with lines := e.lines &&& ~~~ m }
      else some e
    (m = 0 → exec .cancelLines s = .next { s with port := posted s .cancelLines .noLines 0 0 })
      ∧ (m ≠ 0 → exec .cancelLines s = .next
        { s with
          table := { s.table with entries := after }
          aring := afterFall s.aring s.table.entries after
          port := posted s .cancelLines .ok
            (BitVec.ofNat 32 (s.table.entries.countP fun e =>
              visited e && e.lines &&& ~~~ m == 0))
            (BitVec.ofNat 32 (s.table.entries.countP fun e =>
              visited e && e.lines &&& ~~~ m != 0 && e.lines &&& m != 0)) })

/-! ### The sequencer -/

/-- SEQ_RUN, SEQ_SINGLE and SEQ_STOP: their checks in order, the state entered, and for a stop the cause,
the notice and SEQ_STOP (R61 to R64). -/
def Obligations.SequencerCommandsChangeItsState : Prop :=
  (∀ (s : State) (w : Words8) (c : Command) (i : Instr) (entered : SeqState),
    (c, i, entered) = (.seqRun, .seqRun, .running) ∨
      (c, i, entered) = (.seqSingle, .seqSingle, .single) →
    Issues s c w →
    (s.seq.state ≠ .stopped → exec i s = .next { s with port := posted s c .state 0 0 })
      ∧ (s.seq.state = .stopped → s.lines.faultLatch = true →
        exec i s = .next { s with port := posted s c .faultActive 0 0 })
      ∧ (s.seq.state = .stopped → s.lines.faultLatch = false →
        exec i s = .next
          { s with seq := { s.seq with state := entered }, port := posted s c .ok 0 0 }))
  ∧ (∀ (s : State) (w : Words8), Issues s .seqStop w →
    (s.seq.state = .stopped →
      exec .seqStop s = .next { s with port := posted s .seqStop .ok 0 0 })
      ∧ (s.seq.state ≠ .stopped →
        exec .seqStop s = .next
          { s with
            seq := { s.seq with state := .stopped, stopCause := .command }
            report := s.report.offer { time := s.timebase.integer, body := .seqStopped .command }
            irq := (s.irq.setIf (s.report.notices.length ≥ 32) .noticeLoss).setIf True .seqStop
            port := posted s .seqStop .ok 0 0 }))

/-- A latched fault reaches the sequencer and the table as two events of their own: the sequencer stops
with cause FAULT, and every TRAIL entry is removed without a notice or a line effect (R47, R80). The
outstanding events are counted by the model (log entry 16). -/
def Obligations.FaultReachesSequencerAndTable : Prop :=
  ∀ s : State, Awake s →
    (0 < s.lines.faultEvents → s.seq.state = .stopped →
        exec .seqFaultEvent s = .next
          { s with lines := { s.lines with faultEvents := s.lines.faultEvents - 1 } })
      ∧ (0 < s.lines.faultEvents → s.seq.state ≠ .stopped →
        exec .seqFaultEvent s = .next
          { s with
            lines := { s.lines with faultEvents := s.lines.faultEvents - 1 }
            seq := { s.seq with state := .stopped, stopCause := .fault }
            report := s.report.offer { time := s.timebase.integer, body := .seqStopped .fault }
            irq := (s.irq.setIf (s.report.notices.length ≥ 32) .noticeLoss).setIf True .seqStop })
      ∧ (0 < s.lines.faultClaims →
        let kept := s.table.entries.filter fun e => e.action != .trail
        exec .faultClaim s = .next
          { s with
            lines := { s.lines with faultClaims := s.lines.faultClaims - 1 }
            table := { s.table with entries := kept }
            aring := afterFall s.aring s.table.entries kept })

/-- Nothing is taken before its due: in RUNNING and SINGLE while the head is not due, in STOPPED while no
TRAIL is due (R65). -/
def Obligations.NothingIsTakenBeforeItsDue : Prop :=
  ∀ s : State,
    ((s.seq.state ≠ .stopped →
        ∀ e rest, s.table.entries = e :: rest → s.timebase.integer.toNat < e.due.toNat) →
      (s.seq.state = .stopped →
        ∀ e ∈ s.table.entries, e.action = .trail → s.timebase.integer.toNat < e.due.toNat) →
      exec .taking s = .next s)

/-- How a repeating entry goes on: k of R70, the decreased remaining, the next due, and when a taking is
final (R70, R71). -/
def Obligations.RepeatCourseFollowsTheGrid : Prop :=
  ∀ (e : Entry) (now : Time) (late : Bool),
    let lateness := now.toNat - e.due.toNat
    (e.rep = none → e.course now late = { skipped := 0, remaining := 0, again := none })
      ∧ ∀ r, e.rep = some r → r.interval ≠ 0 →
        let passed := if late then (lateness - 1) / r.interval.toNat else 0
        (r.remaining = none →
          let next := e.due.toNat + (passed + 1) * r.interval.toNat
          e.course now late =
            { skipped := passed, remaining := 0
              again := if 2 ^ 56 - 1 < next then none else some (BitVec.ofNat 56 next, r) })
        ∧ (∀ m, r.remaining = some m → m ≠ 0 →
          let k := min passed (m.toNat - 1)
          let next := e.due.toNat + (k + 1) * r.interval.toNat
          let left : BitVec 16 := BitVec.ofNat 16 (m.toNat - (k + 1))
          e.course now late =
            { skipped := k, remaining := left
              again := if m.toNat = k + 1 ∨ 2 ^ 56 - 1 < next then none
                else some (BitVec.ofNat 56 next, { r with remaining := some left }) })

/-- A late DROP_LATE taking: no line effect, a DROPPED notice, LATE, and retirement or re-insertion with
the reservation kept (R45, R69, R77). -/
def Obligations.LateDropLateEntryIsDropped : Prop :=
  ∀ (s : State) (e : Entry) (rest : List Entry), Awake s → TakesNext s e rest →
    e.action ≠ .trail → e.late = .dropLate →
    s.timebase.lateMargin.toNat < s.timebase.integer.toNat - e.due.toNat →
    let c := e.course s.timebase.integer true
    let es := match c.again with
      | none => rest
      | some (due, r) => insertEntry { e with due := due, rep := some r } rest
    ∃ t, exec .taking s = .next t ∧
      TakingLeaves s t es s.lines
        [.dropped
          { final := c.again.isNone, serial := e.serial, tag := e.tag, due := e.due
            remaining := c.remaining, skipped := BitVec.ofNat 24 (min c.skipped (2 ^ 24 - 1)) }]
        true true

/-- The firing of an entry that is neither PULSE nor TRAIL: its line effect, its FIRED notice where R76
calls for one, LATE where late, and retirement or re-insertion (R69, R71, R72, R76). Whether the remaining of
a taking final by overflow shows as 0 is a free value (log entry 11). -/
def Obligations.DueEntryFires : Prop :=
  ∀ (s : State) (e : Entry) (rest : List Entry), Awake s → TakesNext s e rest →
    e.action ≠ .trail → e.action.isPulse = false → e.reserved = false →
    let lateness := s.timebase.integer.toNat - e.due.toNat
    let late := decide (s.timebase.lateMargin.toNat < lateness)
    (late = true → e.late = .fireLate) →
    let c := e.course s.timebase.integer late
    let es := match c.again with
      | none => rest
      | some (due, r) => insertEntry { e with due := due, rep := some r } rest
    let effect := s.lines.fire e.action e.lines e.due s.timebase.integer
    let final := c.again.isNone
    let reported := late || effect.refused != 0 || e.report == .each
      || (e.report == .final && final)
    ∃ t, exec .taking s = .next t ∧
      TakingLeaves s t es effect.lines
        (effect.notices ++ if reported then
          [.fired
            { late := late, final := final, trail := false, noRoom := false
              serial := e.serial, tag := e.tag, due := e.due
              remaining :=
                if c.again.isNone && Config.overflowShowsZero then 0 else c.remaining
              refused := effect.refused
              lateness := if late then BitVec.ofNat 24 (min lateness (2 ^ 24 - 1)) else 0
              skipped := BitVec.ofNat 24 (min c.skipped (2 ^ 24 - 1)) }]
          else [])
        late true

/-- The firing of a PULSE: the lines raised become a TRAIL entry in place of the reservation; a repeating
one takes a fresh reservation, or retires with NO_ROOM (R33, R46, R73, R74, R76). The TRAIL entry's late
policy and report option are the model's filler (log entry 19). Whether the remaining of a taking final
by overflow shows as 0 is a free value (log entry 11). -/
def Obligations.DuePulseMakesItsTrail : Prop :=
  ∀ (s : State) (e : Entry) (rest : List Entry) (width : BitVec 24), Awake s →
    TakesNext s e rest → e.action = .pulse width → e.reserved = true →
    let lateness := s.timebase.integer.toNat - e.due.toNat
    let late := decide (s.timebase.lateMargin.toNat < lateness)
    (late = true → e.late = .fireLate) →
    let c := e.course s.timebase.integer late
    let effect := s.lines.fire e.action e.lines e.due s.timebase.integer
    let trail : Entry :=
      { action := .trail, lines := e.lines &&& ~~~ s.lines.patternMask
        due := BitVec.ofNat 56 (min (e.due.toNat + width.toNat) (2 ^ 56 - 1))
        tag := e.tag, late := .fireLate, report := .none, rep := none, serial := e.serial
        reserved := false }
    let table := if trail.lines = 0 then rest else insertEntry trail rest
    let full := decide (256 ≤ occupancyOf table + 1)
    let es := match c.again with
      | none => table
      | some (due, r) => if full then table else
          insertEntry { e with due := due, rep := some r } table
    let noRoom := c.again.isSome && full
    let final := c.again.isNone || full
    let reported := late || effect.refused != 0 || noRoom || e.report == .each
      || (e.report == .final && final)
    ∃ t, exec .taking s = .next t ∧
      TakingLeaves s t es effect.lines
        (if reported then
          [.fired
            { late := late, final := final, trail := false, noRoom := noRoom
              serial := e.serial, tag := e.tag, due := e.due
              remaining :=
                if c.again.isNone && Config.overflowShowsZero then 0 else c.remaining
              refused := effect.refused
              lateness := if late then BitVec.ofNat 24 (min lateness (2 ^ 24 - 1)) else 0
              skipped := BitVec.ofNat 24 (min c.skipped (2 ^ 24 - 1)) }]
          else [])
        late true

/-- A due TRAIL fires in every sequencer state, whatever its lateness: its STATIC lines go to 0, it leaves
the table, and only refused lines are reported (R65, R75, R76). -/
def Obligations.DueTrailFiresInEveryState : Prop :=
  ∀ (s : State) (e : Entry) (rest : List Entry), Awake s → TakesNext s e rest →
    e.action = .trail →
    let lateness := s.timebase.integer.toNat - e.due.toNat
    let refused := e.lines &&& s.lines.patternMask
    ∃ t, exec .taking s = .next t ∧
      TakingLeaves s t rest
        { s.lines with level := s.lines.level &&& ~~~ (e.lines &&& ~~~ s.lines.patternMask) }
        (if refused = 0 then [] else
          [.fired
            { late := false, final := false, trail := true, noRoom := false
              serial := e.serial, tag := e.tag, due := e.due, remaining := 0, refused := refused
              lateness := if s.timebase.lateMargin.toNat < lateness then
                BitVec.ofNat 24 (min lateness (2 ^ 24 - 1)) else 0
              skipped := 0 }])
        false false

/-! ### Lines and generators -/

/-- SET, CLEAR, TOGGLE, PULSE and TRAIL line by line: a STATIC line of the set takes its level, a PATTERN
line of the set is refused, every other line is untouched, and no generator changes (R94, R95). A PATTERN
line's stored bit is not its level (log entry 18). -/
def Obligations.StaticKindsActLineByLine : Prop :=
  ∀ (l : LineUnit) (m : LineMask) (due now : Time) (width : BitVec 24) (n : Fin 16),
    let static := m.getLsbD n && !l.gens[n].running
    let after (a : Action) : Bool := (l.fire a m due now).lines.level.getLsbD n
    let old := l.level.getLsbD n
    after .set = (static || old) ∧ after (.pulse width) = (static || old)
      ∧ after .clear = (!static && old) ∧ after .trail = (!static && old)
      ∧ after .toggle = (static ^^ old)
      ∧ (∀ a ∈ [Action.set, .clear, .toggle, .pulse width, .trail],
          (l.fire a m due now).refused.getLsbD n = (m.getLsbD n && l.gens[n].running)
            ∧ (l.fire a m due now).lines =
                { l with level := (l.fire a m due now).lines.level }
            ∧ (l.fire a m due now).notices = [])
      ∧ (l.fire (.pulse width) m due now).raised.getLsbD n = static
      ∧ (l.fire .mark m due now).lines = l ∧ (l.fire .mark m due now).refused = 0

/-- PATTERN_LOAD, PATTERN_START and PATTERN_STOP generator by generator; they refuse no line. The first two
and PATTERN_STOP AT_BOUNDARY queue no notice and change nothing of the line unit but generators;
PATTERN_STOP NOW changes generators and stored levels alone (R97 to R99, R102 to R104; log entry 8 for the
next period start). -/
def Obligations.PatternKindsActOnGenerators : Prop :=
  ∀ (l : LineUnit) (m : LineMask) (due now : Time) (p : Pair) (final : Bool) (n : Fin 16),
    let g := l.gens[n]
    let after (a : Action) : Generator := (l.fire a m due now).lines.gens[n]
    let S := due.toNat
    let P := g.shadow.period.toNat
    (∀ a ∈ [Action.patternLoad p, .patternStart, .patternStop .now final,
        .patternStop .atBoundary final],
      (l.fire a m due now).refused = 0 ∧ (l.fire a m due now).raised = 0
        ∧ (m.getLsbD n = false → after a = g))
      ∧ (∀ a ∈ [Action.patternLoad p, .patternStart, .patternStop .atBoundary final],
        (l.fire a m due now).notices = []
          ∧ (l.fire a m due now).lines = { l with gens := (l.fire a m due now).lines.gens })
      ∧ (let stopped := (l.fire (.patternStop .now final) m due now).lines
        stopped = { l with gens := stopped.gens, level := stopped.level })
      ∧ (m.getLsbD n = true →
        (g.running = true → after (.patternLoad p) = { g with shadow := p, reloadPending := true })
          ∧ (g.running = false → after (.patternLoad p) = { g with shadow := p, active := p })
          ∧ after .patternStart =
              { running := true, active := g.shadow, shadow := g.shadow, start := due
                nextStart := S + ((now.toNat - S) / P + 1) * P
                reloadPending := false, pendingStop := none }
          ∧ after (.patternStop .now final) = (if g.running then
              { g with
                running := false, active := g.shadow, reloadPending := false, pendingStop := none }
              else g)
          ∧ after (.patternStop .atBoundary final) =
              (if g.running then { g with pendingStop := some final } else g))
      ∧ (l.fire (.patternStop .now final) m due now).lines.level.getLsbD n =
          (if m.getLsbD n && g.running then final else l.level.getLsbD n)
      ∧ (l.fire (.patternStop .now final) m due now).notices =
          ((List.finRange 16).filter fun k : Fin 16 => m.getLsbD k && l.gens[k].running).map
            fun k : Fin 16 => .patternStopped k final .now

/-- A period start event resolves a pending stop, else a reload, else begins the period; before the next
period start, and on a stopped generator, nothing happens (R101, R105). -/
def Obligations.PeriodStartResolvesStopThenReload : Prop :=
  ∀ (s : State) (n : Fin 16), Awake s →
    let g := s.lines.gens[n]
    let reached := g.running = true ∧ g.nextStart ≤ s.timebase.integer.toNat
    let withGen (g' : Generator) : LineUnit := { s.lines with gens := s.lines.gens.set n g' }
    let stopped : Generator :=
      { g with running := false, active := g.shadow, reloadPending := false, pendingStop := none }
    let reloaded : Generator :=
      { g with
        active := g.shadow, reloadPending := false, start := BitVec.ofNat 56 g.nextStart
        nextStart := g.nextStart + g.shadow.period.toNat }
    (¬ reached → exec (.periodStartEvent n) s = .next s)
      ∧ (reached → ∀ final, g.pendingStop = some final →
        ∃ level : LineMask,
          (∀ k : Fin 16, level.getLsbD k = if k = n then final else s.lines.level.getLsbD k)
            ∧ exec (.periodStartEvent n) s = .next
              { s with
                lines := { withGen stopped with level := level }
                report := s.report.offer
                  { time := s.timebase.integer, body := .patternStopped n final .atBoundary }
                irq := s.irq.setIf (s.report.notices.length ≥ 32) .noticeLoss })
      ∧ (reached → g.pendingStop = none → g.reloadPending = true →
        exec (.periodStartEvent n) s = .next { s with lines := withGen reloaded })
      ∧ (reached → g.pendingStop = none → g.reloadPending = false →
        exec (.periodStartEvent n) s = .next
          { s with lines := withGen { g with nextStart := g.nextStart + g.active.period.toNat } })

/-- A fault seen with the enable on and the latch clear closes the gate, stops every generator without a
notice, puts every line at the level of its safe pin, sets the latch and FAULT, and gives its two events;
otherwise only the seen level changes (R88, R89; log entry 16 for the counts, log entry 4 for a row whose
name does not fit). -/
def Obligations.FaultIsLatchedOnce : Prop :=
  ∀ s : State, Awake s →
    (s.lines.faultEnable = true → s.lines.faultLatch = false →
        ∀ i ∈ [Instr.faultLatch, .faultNSeenChange true], exec i s = .next
          { s with
            lines := { s.lines with
              level := s.lines.safe ^^^ s.lines.polarity
              gateOpen := false, faultLatch := true, faultSeen := true
              gens := s.lines.gens.map fun g => if g.running then
                { g with
                  running := false, active := g.shadow, reloadPending := false
                  pendingStop := none }
                else g
              faultEvents := s.lines.faultEvents + 1
              faultClaims := s.lines.faultClaims + 1 }
            irq := { s.irq with causes := s.irq.causes ||| Cause.fault.bit } })
      ∧ (s.lines.faultEnable = false ∨ s.lines.faultLatch = true →
        ∀ i ∈ [Instr.faultLatch, .faultNSeenChange true],
          exec i s = .next { s with lines := { s.lines with faultSeen := true } })
      ∧ exec (.faultNSeenChange false) s =
          .next { s with lines := { s.lines with faultSeen := false } }

/-- GATE_OPEN and FAULT_CLEAR: refused with FAULT_ACTIVE as R86 and R91 say, and otherwise the one bit
each is for, with OK and values 0. -/
def Obligations.GateOpensAndFaultClears : Prop :=
  (∀ (s : State) (w : Words8), Issues s .gateOpen w →
    (s.lines.faultLatch = true ∨ (s.lines.faultEnable = true ∧ s.lines.faultSeen = true) →
        exec .gateOpen s = .next { s with port := posted s .gateOpen .faultActive 0 0 })
      ∧ (s.lines.faultLatch = false → ¬ (s.lines.faultEnable = true ∧ s.lines.faultSeen = true) →
        exec .gateOpen s = .next
          { s with
            lines := { s.lines with gateOpen := true }, port := posted s .gateOpen .ok 0 0 }))
  ∧ (∀ (s : State) (w : Words8), Issues s .faultClear w →
    (s.lines.faultSeen = true →
        exec .faultClear s = .next { s with port := posted s .faultClear .faultActive 0 0 })
      ∧ (s.lines.faultSeen = false →
        exec .faultClear s = .next
          { s with
            lines := { s.lines with faultLatch := false }
            port := posted s .faultClear .ok 0 0 }))

/-- GATE_CLOSE is never refused: the gate is CLOSED, the answer OK with values 0, and nothing else
changes (R87); on a closed gate only the posting is seen. The sequencer's takings, the generators' period
starts and LINE_WRITE do behind a closed gate what they do behind an open one. -/
def Obligations.GateCloseIsNeverRefused : Prop :=
  let withGate (b : Bool) (s : State) : State := { s with lines := { s.lines with gateOpen := b } }
  (∀ (s : State) (w : Words8), Issues s .gateClose w →
    exec .gateClose s = .next { withGate false s with port := posted s .gateClose .ok 0 0 }
      ∧ (s.lines.gateOpen = false →
        exec .gateClose s = .next { s with port := posted s .gateClose .ok 0 0 }))
  ∧ (∀ s : State, (withGate false s).levels = s.levels)
  ∧ ∀ (s t : State) (b : Bool) (i : Instr),
      (i = .taking ∨ i = .lineWrite ∨ ∃ n, i = .periodStartEvent n) →
      exec i s = .next t → exec i (withGate b s) = .next (withGate b t)

/-- LINE_WRITE: refused without a line; otherwise STATIC lines of the mask take their levels, PATTERN
lines are answered as refused, and the mask of lines at logical 1 is answered (R92). -/
def Obligations.LineWriteSetsStaticLines : Prop :=
  ∀ (s : State) (w : Words8), Issues s .lineWrite w →
    let m : LineMask := w[0].extractLsb' 0 16
    let v : LineMask := w[1].extractLsb' 0 16
    (m = 0 → exec .lineWrite s = .next { s with port := posted s .lineWrite .noLines 0 0 })
      ∧ (m ≠ 0 → ∃ t, exec .lineWrite s = .next t
        ∧ (∀ n : Fin 16,
            t.lines.level.getLsbD n =
              (if m.getLsbD n && !s.lines.gens[n].running then v.getLsbD n
                else s.lines.level.getLsbD n)
            ∧ t.port.value0.getLsbD n = (m.getLsbD n && s.lines.gens[n].running)
            ∧ t.port.value1.getLsbD n = t.levels.getLsbD n)
        ∧ t = { s with
            lines := { s.lines with level := t.lines.level }
            port := posted s .lineWrite .ok t.port.value0 t.port.value1 }
        ∧ t.port.value0.toNat < 2 ^ 16 ∧ t.port.value1.toNat < 2 ^ 16)

/-- The pins of R83 and R186, the levels of R85 and R100, and the writes of OUT_POLARITY, OUT_SAFE and
FAULT_CONFIG, which change that one setting (R84, R88). -/
def Obligations.PinsFollowGateLevelAndPolarity : Prop :=
  (∀ (s : State) (n : Fin 16),
    let g := s.lines.gens[n]
    let x := s.timebase.integer.toNat
    s.levels.getLsbD n =
        (if g.running then
          decide ((x - g.start.toNat) % g.active.period.toNat < g.active.high.toNat)
        else s.lines.level.getLsbD n)
      ∧ s.pins.getLsbD n =
        (if s.resetAsserted then false
        else if s.lines.gateOpen then s.levels.getLsbD n ^^ s.lines.polarity.getLsbD n
        else s.lines.safe.getLsbD n))
  ∧ ∀ (s : State) (v : Word), Awake s →
    exec (.outPolarityWrite v) s =
        .next { s with lines := { s.lines with polarity := v.extractLsb' 0 16 } }
      ∧ exec (.outSafeWrite v) s =
        .next { s with lines := { s.lines with safe := v.extractLsb' 0 16 } }
      ∧ exec (.faultConfigWrite v) s =
        .next { s with lines := { s.lines with faultEnable := v.getLsbD 0 } }

/-! ### Capture and responses -/

/-- An edge on an input line: not examined, suppressed and counted, or accepted with a timestamp, a
sequence number and a record, which joins the log or is lost; the edge triggers an ARMED template (R112 to
R118, R124). -/
def Obligations.EdgeIsAcceptedSuppressedOrPassed : Prop :=
  ∀ (s : State) (n : Fin 8) (e : Edge), Awake s →
    let l := s.capture.inputs[n]
    let now := s.timebase.integer
    let rising := decide (e = .rise)
    let examined := l.enable = true ∧ (l.select = .both ∨ (l.select = .rise ∧ e = .rise)
      ∨ (l.select = .fall ∧ e = .fall))
    let held := ∃ last, l.lastAccepted = some last ∧ last.toNat ≤ now.toNat
      ∧ now.toNat - last.toNat < l.holdoff.toNat
    let seen : InputLine := { l with sync := some rising }
    let accepted : InputLine := { seen with seq := l.seq + 1, lastAccepted := some now, supp := 0 }
    let suppressed : InputLine :=
      { seen with supp := if l.supp.toNat = 65535 then l.supp else l.supp + 1 }
    let inputs (x : InputLine) : Vector InputLine 8 := s.capture.inputs.set n x
    let template := s.response.templates[n]
    l.sync = some (!rising) →
    (¬ examined → exec (.inputEdge n e) s = .next
        { s with capture := { s.capture with inputs := inputs seen } })
      ∧ (examined → held → exec (.inputEdge n e) s = .next
        { s with capture := { s.capture with inputs := inputs suppressed } })
      ∧ (examined → ¬ held → ∃ t, exec (.inputEdge n e) s = .next t
        ∧ (s.capture.log.length < 64 →
          t.capture =
              { inputs := inputs accepted
                log := s.capture.log ++
                  [{ line := n, edge := e, stamp := now, seq := l.seq + 1, supp := l.supp }] }
            ∧ t.irq = s.irq)
        ∧ (64 ≤ s.capture.log.length →
          t.capture =
              { inputs := inputs
                  { accepted with
                    lost := if l.lost.toNat = 2 ^ 32 - 1 then l.lost else l.lost + 1 }
                log := s.capture.log }
            ∧ t.irq = { s.irq with causes := s.irq.causes ||| Cause.captureLoss.bit })
        ∧ (template.state ≠ .armed → t.response = s.response)
        ∧ (template.state = .armed →
          t.response.claims = s.response.claims ++
              [{ line := n, fields := template.fields, delay := template.delay, stamp := now }]
            ∧ t.response.templates = s.response.templates.set n
                (if template.mode = .oneShot then { template with state := .claiming } else template))
        ∧ t = { s with capture := t.capture, response := t.response, irq := t.irq })

/-- A full-word write of CAP_LOST_n sets the counter to 0 whatever is written, and changes nothing else,
CAPTURE_LOSS included; a narrow write leaves it. The register shows the counter. A loss counted after the
write makes it 1, and a write after the loss makes it 0 (R119). -/
def Obligations.CapLostWriteClearsTheCounter : Prop :=
  ∀ (s : State) (n : Fin 8) (v : Word) (lanes : BitVec 4), Awake s →
    let offset : BitVec 10 := BitVec.ofNat 10 (0x200 + 4 * n.val)
    let withInput (x : InputLine) : State :=
      { s with capture := { s.capture with inputs := s.capture.inputs.set n x } }
    let cleared := withInput { s.capture.inputs[n] with lost := 0 }
    let lossAfter (u : State) (r : CaptureRecord) : BitVec 32 :=
      (offerRecord r u).capture.inputs[n].lost
    exec (.capLostWrite n v) s = .next cleared
      ∧ s.readOffset offset = s.capture.inputs[n].lost
      ∧ (lanes ≠ 0xF → exec (.narrowWrite offset lanes v) s = .next
          { s with bus := { s.bus with narrowFlag := true } })
      ∧ ∀ r : CaptureRecord, r.line = n → 64 ≤ s.capture.log.length →
          lossAfter cleared r = 1
            ∧ ∀ t, exec (.capLostWrite n v) (offerRecord r s) = .next t →
                t.capture.inputs[n].lost = 0

/-- CAP_CONFIG_n takes three settings at once unless the edge encoding is the fourth, and changes no
counter (R111); a line's first synchronised level is taken and is no edge (R109). -/
def Obligations.InputLineSettingsAndFirstLevel : Prop :=
  ∀ (s : State) (n : Fin 8) (v : Word) (level : Bool), Awake s →
    let l := s.capture.inputs[n]
    let code := (v.extractLsb' 4 2).toNat
    let withInput (x : InputLine) : State :=
      { s with capture := { s.capture with inputs := s.capture.inputs.set n x } }
    (code = 3 → exec (.capConfigWrite n v) s = .next s)
      ∧ (∀ select : EdgeSelect, select.code.toNat = code →
        exec (.capConfigWrite n v) s = .next (withInput
          { l with enable := v.getLsbD 0, select := select, holdoff := v.extractLsb' 16 16 }))
      ∧ (l.sync = none → exec (.firstSynchronisedLevel n level) s =
          .next (withInput { l with sync := some level }))

/-- RESPONSE_LOAD, RESPONSE_ARM and RESPONSE_DISARM: the template number first, then the checks of R121 to
R123, then the one template changed. A loaded template names the action and the report option of its words
(R18, R24, R25, R198). -/
def Obligations.ResponseCommandsChangeOneTemplate : Prop :=
  (∀ (s : State) (w : Words8), Issues s .responseLoad w →
    let n := (w[1].extractLsb' 16 16).toNat
    let refused (r : ResultCode) : Prop :=
      exec .responseLoad s = .next { s with port := posted s .responseLoad r 0 0 }
    (7 < n → refused .badIndex)
      ∧ ∀ h : n < 8,
        (¬ GoodKind w → refused .badKind)
        ∧ (GoodKind w → ¬ GoodLines w → refused .noLines)
        ∧ (GoodKind w → GoodLines w → BadParameter w → refused .badParam)
        ∧ (GoodKind w → GoodLines w → ¬ BadParameter w →
          ∃ (f : TemplateFields) (a : Action),
            f.action = .ok a ∧ NamesAction w a ∧ NamesReport w f.report
              ∧ f.lines = (if kindNumber w = 8 then 0 else candidateLines w)
              ∧ f.tag = w[1].extractLsb' 0 16
              ∧ f.late = (if w[0].getLsbD 25 then .dropLate else .fireLate)
              ∧ exec .responseLoad s = .next
                { s with
                  response := { s.response with
                    templates := s.response.templates.set n
                      { state := .disarmed, fields := f, delay := w[6]
                        mode := if w[0].getLsbD 24 then .continuous else .oneShot } }
                  port := posted s .responseLoad .ok 0 0 }))
  ∧ (∀ (s : State) (w : Words8), Issues s .responseArm w →
    (7 < w[0].toNat →
      exec .responseArm s = .next { s with port := posted s .responseArm .badIndex 0 0 })
      ∧ ∀ h : w[0].toNat < 8,
        let p := s.response.templates[w[0].toNat]
        let outstanding := ∃ c ∈ s.response.claims, c.line.val = w[0].toNat
        (p.state = .empty ∨ outstanding →
          exec .responseArm s = .next { s with port := posted s .responseArm .state 0 0 })
        ∧ (p.state ≠ .empty → ¬ outstanding →
          exec .responseArm s = .next
            { s with
              response := { s.response with
                templates := s.response.templates.set w[0].toNat { p with state := .armed } }
              port := posted s .responseArm .ok 0 0 }))
  ∧ (∀ (s : State) (w : Words8), Issues s .responseDisarm w →
    (7 < w[0].toNat →
      exec .responseDisarm s = .next { s with port := posted s .responseDisarm .badIndex 0 0 })
      ∧ ∀ h : w[0].toNat < 8,
        let p := s.response.templates[w[0].toNat]
        exec .responseDisarm s = .next
          { s with
            response := { s.response with
              templates := s.response.templates.set w[0].toNat
                (if p.state = .armed ∨ p.state = .claiming then { p with state := .disarmed }
                else p) }
            port := posted s .responseDisarm .ok 0 0 })

/-- The oldest response claim, whose fields name an action as those of every load do: BAD_TIME, then
TABLE_FULL, queue RESPONSE_LOST and return a CLAIMING template to ARMED; otherwise the entry is admitted at
timestamp plus delay and a CLAIMING template becomes DISARMED (R125 to R127). -/
def Obligations.ResponseClaimAdmitsOrIsLost : Prop :=
  ∀ (s : State) (c : ResponseClaim) (rest : List ResponseClaim) (a : Action), Awake s →
    s.response.claims = c :: rest → c.fields.action = .ok a →
    let due := c.stamp.toNat + c.delay.toNat
    let slots := if a.isPulse then 2 else 1
    let free := 256 - occupancyOf s.table.entries
    let p := s.response.templates[c.line]
    let settled (next : TemplateState) : ResponseUnit :=
      { templates := s.response.templates.set c.line
          (if p.state = .claiming then { p with state := next } else p)
        claims := rest }
    let lost (r : ResultCode) : Prop :=
      exec .responseClaim s = .next
        { s with
          response := settled .armed
          report := s.report.offer
            { time := s.timebase.integer, body := .responseLost c.line c.stamp r }
          irq := s.irq.setIf (s.report.notices.length ≥ 32) .noticeLoss }
    (2 ^ 56 - 1 < due → lost .badTime)
      ∧ (due ≤ 2 ^ 56 - 1 → free < slots → lost .tableFull)
      ∧ (due ≤ 2 ^ 56 - 1 → slots ≤ free → exec .responseClaim s = .next
        { s with
          response := settled .disarmed
          table := { s.table with
            entries := insertEntry
              { action := a, lines := c.fields.lines, due := BitVec.ofNat 56 due
                tag := c.fields.tag, late := c.fields.late, report := c.fields.report
                rep := none, serial := s.table.serialNext, reserved := a.isPulse }
              s.table.entries
            serialNext := s.table.serialNext + 1 } })

/-! ### The report unit -/

/-- An offered notice carries the integer as its time; it joins the tail of a queue with room, and is
otherwise lost and counted with NOTICE_LOSS, changing nothing else (R131, R133, R135). -/
def Obligations.OfferedNoticeIsQueuedOrCounted : Prop :=
  ∀ (s : State) (b : NoticeBody),
    (s.report.notices.length < 32 → offer b s =
        { s with report := { s.report with
          notices := s.report.notices ++ [{ time := s.timebase.integer, body := b }] } })
      ∧ (32 ≤ s.report.notices.length → offer b s =
        { s with
          report := { s.report with
            noticeLoss := if s.report.noticeLoss.toNat = 2 ^ 32 - 1 then s.report.noticeLoss
              else s.report.noticeLoss + 1 }
          irq := { s.irq with causes := s.irq.causes ||| Cause.noticeLoss.bit } })

/-- The report writer starts a write exactly under the conditions of R138: it chooses by R137 and asks for
a burst of the head record's 32 bytes at base + 32 * producer index. -/
def Obligations.ReportWriterStartsByItsRules : Prop :=
  ∀ s : State, Awake s →
    let may := s.report.state = .running ∧ s.report.ring.disablePending = false
      ∧ s.bus.masterEnable = true ∧ s.report.inFlight = none
      ∧ (s.report.notices ≠ [] ∨ s.capture.log ≠ [])
    let request (data : Words8) : WriteRequest :=
      { address := s.report.ring.base + BitVec.ofNat 32 (32 * s.report.ring.prod), data := data }
    (¬ may → exec .reportWriteStart s = .next s)
      ∧ (may → ∀ (src : Source) (data : Words8),
        (src = .notice ↔
          (s.report.notices ≠ [] ∧ (s.capture.log = [] ∨ s.report.lastSource = .capture))) →
        (∀ n rest, src = .notice → s.report.notices = n :: rest → data = n.words) →
        (∀ r rest, src = .capture → s.capture.log = r :: rest → data = r.words) →
        exec .reportWriteStart s = .next
          { s with
            report := { s.report with inFlight := some src }
            bus := { s.bus with reportSlot := some (request data) } })

/-- A report burst that completes: DONE delivers the record by the six steps of R140 (with R134, R145 and
R148), ERROR halts the ring or carries out a pending disable (R141, R145), and an abandoned write is
discarded (R152). With threshold 1 the wait start is recorded too (log entry 15). With no report burst on the
bus a completion only clears the mark of an abandoned write whose slot is empty (log entry 10), and otherwise
changes nothing (log entry 1). -/
def Obligations.ReportWriteCompletes : Prop :=
  (∀ s : State, s.bus.onBus ≠ some .report →
    ∀ i ∈ [Instr.reportWriteDone, .reportWriteError],
      (s.report.ring.abandoned = true → s.bus.reportSlot = none →
        exec i s = .next { s with report := { s.report with
          ring := { s.report.ring with abandoned := false } } })
      ∧ (s.report.ring.abandoned = false ∨ s.bus.reportSlot ≠ none → exec i s = .next s))
  ∧ ∀ s : State, s.bus.onBus = some .report →
    let bus := { s.bus with reportSlot := none, onBus := none }
    let u := s.report
    (u.ring.abandoned = true → ∀ i ∈ [Instr.reportWriteDone, .reportWriteError],
        exec i s = .next
          { s with bus := bus, report := { u with ring := { u.ring with abandoned := false } } })
      ∧ (∀ src, u.ring.abandoned = false → u.inFlight = some src →
        (∃ t, exec .reportWriteDone s = .next t
          ∧ t = { s with
              bus := bus, report := t.report, capture := t.capture
              irq := s.irq.setIf (u.threshold ≤ u.count + 1) .report }
          ∧ t.capture.inputs = s.capture.inputs
          ∧ t.capture.log = (if src = .capture then s.capture.log.tail else s.capture.log)
          ∧ t.report.notices = (if src = .capture then u.notices
              else if u.noticeLoss = 0 then u.notices.tail
              else u.notices.tail ++
                [{ time := s.timebase.integer, body := .noticeLoss u.noticeLoss }])
          ∧ t.report.noticeLoss = (if src = .capture then u.noticeLoss else 0)
          ∧ t.report.ring =
              { u.ring with prod := (u.ring.prod + 1) % u.ring.size, disablePending := false }
          ∧ t.report.lastSource = src ∧ t.report.inFlight = none
          ∧ t.report.count = (if u.threshold ≤ u.count + 1 then 0 else u.count + 1)
          ∧ t.report.threshold = u.threshold ∧ t.report.delay = u.delay
          ∧ (u.count = 0 → t.report.waitStart = s.timebase.integer)
          ∧ (0 < u.count → t.report.waitStart = u.waitStart)
          ∧ (u.ring.disablePending = true → t.report.state = .disabled)
          ∧ (u.ring.disablePending = false → u.state = .running ∨ u.state = .full →
              t.report.state =
                if ((u.ring.prod + 1) % u.ring.size + 1) % u.ring.size = u.ring.cons then .full
                else .running))
        ∧ (u.ring.disablePending = true → exec .reportWriteError s = .next
          { s with
            bus := bus
            report := { u with
              inFlight := none, state := .disabled
              ring := { u.ring with disablePending := false } } })
        ∧ (u.ring.disablePending = false → exec .reportWriteError s = .next
          { s with
            bus := bus
            report := { u with inFlight := none, state := .halted }
            irq := { s.irq with
              causes := s.irq.causes ||| Cause.ringError.bit, haltReport := true } }))

/-- The coalescing wait and a write of REPORT_COAL (R148 to R150; log entry 14 for an expiry made due by
the write, log entry 28 for a wait that starts at saturation). -/
def Obligations.CoalescingSignalsReport : Prop :=
  ∀ (s : State) (v : Word), Awake s →
    let u := s.report
    let now := s.timebase.integer.toNat
    let expires (delay : Nat) : Prop := 0 < u.count ∧ 0 < delay ∧
      (u.waitStart.toNat + delay ≤ now ∨ now < u.waitStart.toNat ∨ now = 2 ^ 56 - 1)
    let signalled (r : ReportUnit) : State :=
      { s with
        report := { r with count := 0 }
        irq := { s.irq with causes := s.irq.causes ||| Cause.report.bit } }
    let threshold := max 1 (v.extractLsb' 0 8).toNat
    let delay := min (v.extractLsb' 8 21).toNat (2 ^ 20)
    let written : ReportUnit := { u with threshold := threshold, delay := delay }
    (expires u.delay → exec .coalesceExpiry s = .next (signalled u))
      ∧ (¬ expires u.delay → exec .coalesceExpiry s = .next s)
      ∧ (threshold ≤ u.count → exec (.reportCoalWrite v) s = .next (signalled written))
      ∧ (u.count < threshold → expires delay →
        exec (.reportCoalWrite v) s = .next (signalled written))
      ∧ (u.count < threshold → ¬ expires delay →
        exec (.reportCoalWrite v) s = .next { s with report := written })

/-- Base, size and producer index are written only while DISABLED with no disable pending, else flagged;
an invalid size is flagged in every state; a consumer write is stored in every state and evaluated while
enabled; a status write clears its two flags; the enable and the disable act by the ring's state (R142 to
R145, R147, R196, R200). -/
def Obligations.ReportRingRegistersObeyTheirChecks : Prop :=
  ∀ (s : State) (v : Word), Awake s →
    let u := s.report
    let writable := u.state = .disabled ∧ u.ring.disablePending = false
    let ignored : State :=
      { s with report := { u with ring := { u.ring with ignoredWrite := true } } }
    let stored (r : Ring) : State := { s with report := { u with ring := r } }
    let valid := v.toNat ∈ [16, 32, 64, 128, 256, 512, 1024, 2048, 4096]
    let cons := v.toNat % u.ring.size
    (¬ writable → ∀ i ∈ [Instr.reportBaseWrite v, .reportSizeWrite v, .reportProdWrite v],
        exec i s = .next ignored)
      ∧ (writable →
        exec (.reportBaseWrite v) s =
            .next (stored { u.ring with base := v &&& 0xFFFFFFC0#32 })
          ∧ exec (.reportProdWrite v) s =
            .next (stored { u.ring with prod := v.toNat % u.ring.size })
          ∧ (valid → exec (.reportSizeWrite v) s =
            .next (stored { u.ring with size := v.toNat, prod := 0, cons := 0 }))
          ∧ (¬ valid → exec (.reportSizeWrite v) s = .next ignored))
      ∧ (u.state = .disabled ∨ u.state = .halted →
        exec (.reportConsWrite v) s = .next (stored { u.ring with cons := cons }))
      ∧ (u.state = .running ∨ u.state = .full →
        exec (.reportConsWrite v) s = .next
          { s with report := { u with
            ring := { u.ring with cons := cons }
            state := if (u.ring.prod + 1) % u.ring.size = cons then .full else .running } })
      ∧ exec (.reportStatusWrite v) s = .next
          (stored { u.ring with
            ignoredWrite := u.ring.ignoredWrite && !v.getLsbD 8
            enableRefused := u.ring.enableRefused && !v.getLsbD 9 })
      ∧ (v.getLsbD 0 = true →
      (u.state ≠ .disabled → exec (.reportEnable v) s = .next s)
        ∧ (u.state = .disabled → s.bus.masterEnable = false ∨ u.ring.abandoned = true →
          exec (.reportEnable v) s = .next
            { s with report := { u with ring := { u.ring with enableRefused := true } } })
        ∧ (u.state = .disabled → s.bus.masterEnable = true → u.ring.abandoned = false →
          exec (.reportEnable v) s = .next
            { s with report := { u with
              ring := { u.ring with enable := true }
              state := if (u.ring.prod + 1) % u.ring.size = u.ring.cons then .full
                else .running } }))
      ∧ (v.getLsbD 0 = false →
        (u.state = .disabled → exec (.reportDisable v) s = .next
            { s with report := { u with ring := { u.ring with enable := false } } })
        ∧ (u.state = .halted ∨ (u.state ≠ .disabled ∧ u.inFlight = none) →
          exec (.reportDisable v) s = .next
            { s with report := { u with
              state := .disabled
              ring := { u.ring with enable := false, disablePending := false } } })
        ∧ (∀ src, u.state = .running ∨ u.state = .full → u.inFlight = some src →
          exec (.reportDisable v) s = .next
            { s with report := { u with
              ring := { u.ring with enable := false, disablePending := true } } }))

/-! ### The admission ring -/

/-- A descriptor fetch: started exactly under the conditions of R157; DONE fills the buffer and makes a
claim, or is discarded by a pending disable; ERROR halts the ring, or is discarded; an abandoned fetch
changes nothing but its mark (R157, R158, R164, R166, R170). With no fetch burst on the bus a completion only
clears the mark of an abandoned fetch whose slot is empty (log entry 10), and otherwise changes nothing (log
entry 1). -/
def Obligations.DescriptorFetchRunsItsCourse : Prop :=
  ∀ (s : State) (data : Words8),
    let a := s.aring
    let may := a.state = .running ∧ a.ring.disablePending = false ∧ s.bus.masterEnable = true
      ∧ a.fetch = .idle ∧ a.buffer = none ∧ a.ring.cons ≠ a.ring.prod
    let freed := { s.bus with admissionSlot := none, onBus := none }
    let off : AdmissionRing :=
      { a with
        state := .disabled, buffer := none, fetch := .idle, retry := false
        ring := { a.ring with disablePending := false } }
    (Awake s →
      (¬ may → exec .fetchStart s = .next s)
        ∧ (may → exec .fetchStart s = .next
          { s with
            aring := { a with fetch := .burst }
            bus := { s.bus with
              admissionSlot := some (a.ring.base + BitVec.ofNat 32 (32 * a.ring.cons)) } }))
      ∧ (s.bus.onBus ≠ some .admission → ∀ i ∈ [Instr.fetchDone data, .fetchError],
        (a.ring.abandoned = true → s.bus.admissionSlot = none → exec i s = .next
            { s with aring := { a with ring := { a.ring with abandoned := false } } })
          ∧ (a.ring.abandoned = false ∨ s.bus.admissionSlot ≠ none → exec i s = .next s))
      ∧ (s.bus.onBus = some .admission → a.ring.abandoned = true →
        ∀ i ∈ [Instr.fetchDone data, .fetchError], exec i s = .next
          { s with bus := freed, aring := { a with ring := { a.ring with abandoned := false } } })
      ∧ (s.bus.onBus = some .admission → a.ring.abandoned = false → a.fetch = .burst →
        (a.ring.disablePending = true → ∀ i ∈ [Instr.fetchDone data, .fetchError],
          exec i s = .next { s with bus := freed, aring := off })
        ∧ (a.ring.disablePending = false →
          exec (.fetchDone data) s = .next
              { s with bus := freed, aring := { a with buffer := some data, fetch := .claim } }
            ∧ exec .fetchError s = .next
              { s with
                bus := freed, aring := { a with state := .halted, fetch := .idle }
                irq := { s.irq with
                  causes := s.irq.causes ||| Cause.ringError.bit, haltAdmission := true } }))

/-- The claim of a fetched or held descriptor: withdrawn where its slot is no longer published, admitted,
held with TABLE_FULL, or rejected with its notice and ADMIT_REJECT (R158 to R162). -/
def Obligations.DescriptorClaimHasOneOutcome : Prop :=
  ∀ (s : State) (w : Words8), Awake s → s.aring.buffer = some w →
    let a := s.aring
    let answer := (Candidate.ofWords w).validate s.timebase.integer
      (256 - occupancyOf s.table.entries) s.table.serialNext
    let emptied : AdmissionRing :=
      { a with state := .running, buffer := none, fetch := .idle, retry := false }
    let finished : AdmissionRing :=
      { emptied with ring := { a.ring with cons := (a.ring.cons + 1) % a.ring.size } }
    let admitted (e : Entry) : State :=
      { s with
        aring := finished
        table := { s.table with
          entries := insertEntry e s.table.entries, serialNext := s.table.serialNext + 1 } }
    let rejected (r : ResultCode) : State :=
      { s with
        aring := finished
        report := s.report.offer
          { time := s.timebase.integer
            body := .rejected (BitVec.ofNat 12 a.ring.cons) r (w[1].extractLsb' 0 16) }
        irq := (s.irq.setIf (s.report.notices.length ≥ 32) .noticeLoss).setIf True .admitReject }
    (a.fetch = .claim →
      (a.ring.prod = a.ring.cons → exec .descriptorClaim s = .next { s with aring := emptied })
        ∧ (a.ring.prod ≠ a.ring.cons →
          (∀ e, answer = .ok e → exec .descriptorClaim s = .next (admitted e))
          ∧ (answer = .error .tableFull → exec .descriptorClaim s = .next
            { s with
              aring := { a with state := .held, fetch := .idle }
              irq := { s.irq with causes := s.irq.causes ||| Cause.admitHeld.bit } })
          ∧ (∀ r, answer = .error r → r ≠ .tableFull →
            exec .descriptorClaim s = .next (rejected r))))
      ∧ (a.state = .held → a.retry = true →
        (∀ e, answer = .ok e → exec .retryClaim s = .next (admitted e))
        ∧ (answer = .error .tableFull →
          exec .retryClaim s = .next { s with aring := { a with retry := false } })
        ∧ (∀ r, answer = .error r → r ≠ .tableFull →
          exec .retryClaim s = .next (rejected r)))

/-- The admission ring's words: base, size and consumer index only while DISABLED, else flagged; the
producer index in every state, where equal indices withdraw a held descriptor; the status flags; enable
and disable (R153, R154, R156, R163, R166, R169; log entry 12 for a disable with a claim waiting). -/
def Obligations.AdmissionRingRegistersObeyTheirChecks : Prop :=
  ∀ (s : State) (v : Word), Awake s →
    let a := s.aring
    let writable := a.state = .disabled ∧ a.ring.disablePending = false
    let stored (r : Ring) : State := { s with aring := { a with ring := r } }
    let ignored := stored { a.ring with ignoredWrite := true }
    let valid := v.toNat ∈ [16, 32, 64, 128, 256, 512, 1024, 2048, 4096]
    let index := v.toNat % a.ring.size
    let off : AdmissionRing :=
      { a with
        state := .disabled, buffer := none, fetch := .idle, retry := false
        ring := { a.ring with enable := false, disablePending := false } }
    (¬ writable → ∀ i ∈ [Instr.aringBaseWrite v, .aringSizeWrite v, .aringConsWrite v],
        exec i s = .next ignored)
      ∧ (writable →
        exec (.aringBaseWrite v) s = .next (stored { a.ring with base := v &&& 0xFFFFFFC0#32 })
          ∧ exec (.aringConsWrite v) s = .next (stored { a.ring with cons := index })
          ∧ (valid → exec (.aringSizeWrite v) s =
            .next (stored { a.ring with size := v.toNat, prod := 0, cons := 0 }))
          ∧ (¬ valid → exec (.aringSizeWrite v) s = .next ignored))
      ∧ (a.state ≠ .held ∨ index ≠ a.ring.cons →
        exec (.aringProdWrite v) s = .next (stored { a.ring with prod := index }))
      ∧ (a.state = .held → index = a.ring.cons → exec (.aringProdWrite v) s = .next
        { s with aring := { a with
          state := .running, buffer := none, fetch := .idle, retry := false
          ring := { a.ring with prod := index } } })
      ∧ exec (.aringStatusWrite v) s = .next
          (stored { a.ring with
            ignoredWrite := a.ring.ignoredWrite && !v.getLsbD 8
            enableRefused := a.ring.enableRefused && !v.getLsbD 9 })
      ∧ (v.getLsbD 0 = true →
        (a.state ≠ .disabled → exec (.aringEnable v) s = .next s)
          ∧ (a.state = .disabled → s.bus.masterEnable = false ∨ a.ring.abandoned = true →
            exec (.aringEnable v) s = .next (stored { a.ring with enableRefused := true }))
          ∧ (a.state = .disabled → s.bus.masterEnable = true → a.ring.abandoned = false →
            exec (.aringEnable v) s = .next
              { s with aring := { a with
                state := .running, ring := { a.ring with enable := true } } }))
      ∧ (v.getLsbD 0 = false →
        (a.state = .disabled → exec (.aringDisable v) s = .next
            (stored { a.ring with enable := false }))
          ∧ (a.state = .running → a.fetch = .burst → exec (.aringDisable v) s = .next
            (stored { a.ring with enable := false, disablePending := true }))
          ∧ (a.state = .held ∨ a.state = .halted ∨ (a.state = .running ∧ a.fetch ≠ .burst) →
            exec (.aringDisable v) s = .next { s with aring := off }))

/-! ### Command port, window, resets -/

/-- A write of CMD: while IDLE it issues the command its bits 7:0 name, with a copy of the staging words,
or is answered BAD_COMMAND; while BUSY it only sets the overrun flag. A write of CMD_RESULT clears that
flag by bit 25, and nothing else but a reset does (R172 to R176). The three rows of a CMD write, and the
rows that write CMD or CMD_RESULT by offset, act as the write they are whatever their name (log entry 4). The
codes are those of Table 11-4. -/
def Obligations.CommandPortTakesOneCommandAtATime : Prop :=
  NamesCommands ∧ ∀ (s : State) (v : Word), Awake s →
    let code := v.extractLsb' 0 8
    (∀ i : Instr,
      i = .commandIssue v ∨ i = .badCommand v ∨ i = .cmdOverrun v ∨ WritesByOffset i .cmd v →
      (∀ b, s.port.buffer = some b →
          exec i s = .next { s with port := { s.port with overrun := true } })
        ∧ (∀ c : Command, s.port.buffer = none → c.code = code →
          exec i s = .next
            { s with port := { s.port with
              buffer := some { command := c, words := s.port.staging } } })
        ∧ (s.port.buffer = none → (∀ c : Command, c.code ≠ code) →
          exec i s = .next
            { s with port := { s.port with
              result := .badCommand, resultCommand := code, value0 := 0, value1 := 0
              completions := s.port.completions + 1 } }))
      ∧ (∀ i : Instr, i = .cmdResultWrite v ∨ WritesByOffset i .cmdResult v → exec i s = .next
        { s with port := { s.port with overrun := s.port.overrun && !v.getLsbD 25 } })
      ∧ ∀ (c : Instr) (t : State), s.port.overrun = true → exec c s = .next t →
        t.port.overrun = true
          ∨ (∃ u : Word, u.getLsbD 25 = true
              ∧ (c = .cmdResultWrite u ∨ WritesByOffset c .cmdResult u))
          ∨ (∃ u : Word, u.getLsbD 1 = true
              ∧ (c = .softReset u ∨ c = .busMasterEnableWrite u ∨ WritesByOffset c .control u))
          ∨ c = .powerOnReset

/-- A full-word write of CMD taken while the port is BUSY issues nothing and sets the overrun flag, which
stays set at further overruns and until CMD_RESULT is written with bit 25 at one or a reset clears it: no
other command clears it. Taken after the posting it issues, and a posting after it leaves the flag
(R174). -/
def Obligations.BusyPortTakesNoCommand : Prop :=
  ∀ (s : State) (v : Word) (b : Issued), Awake s → s.port.buffer = some b →
    exec (.cmdOverrun v) s = .next { s with port := { s.port with overrun := true } }
      ∧ (s.port.overrun = true → exec (.cmdOverrun v) s = .next s)
      ∧ (∀ (c : BitVec 8) (a : Answer), (s.port.post c a).overrun = s.port.overrun)
      ∧ (∀ (c : BitVec 8) (a : Answer) (k : Command), k.code = v.extractLsb' 0 8 →
          exec (.commandIssue v) { s with port := s.port.post c a } = .next
            { s with port := { s.port.post c a with
              buffer := some { command := k, words := s.port.staging } } })
      ∧ (∀ u : Word, exec (.cmdResultWrite u) s = .next
          { s with port := { s.port with overrun := s.port.overrun && !u.getLsbD 25 } })
      ∧ (∀ (u : Word) (t : State), u.getLsbD 1 = true → exec (.softReset u) s = .next t →
          t.port.overrun = false)
      ∧ (∀ t : State, exec .powerOnReset s = .next t → t.port.overrun = false)
      ∧ ∀ (c : Instr) (t : State), c.wf = true → s.port.overrun = true → exec c s = .next t →
          t.port.overrun = true ∨ (∃ u : Word, u.getLsbD 25 = true ∧ c = .cmdResultWrite u)
            ∨ (∃ u : Word, c = .softReset u) ∨ c = .powerOnReset

/-- The window: a write of a register without a row of its own is stored, limited or ignored by its type,
an unmapped offset and a read-only register ignore it, a narrow write only sets the narrow-write flag, and
BUS_STATUS, INT_CAUSE and INT_ENABLE are written as R181, R191, R192 and R193 say. The low two bits of an
offset are not examined (R180). -/
def Obligations.WindowWritesObeyAccessTypes : Prop :=
  ∀ (s : State) (v : Word) (offset : BitVec 10) (lanes : BitVec 4), Awake s →
    (lanes ≠ 0xF → exec (.narrowWrite offset lanes v) s = .next
        { s with bus := { s.bus with narrowFlag := true } })
      ∧ (∀ n : Fin 8, exec (.registerWrite (BitVec.ofNat 10 (0x020 + 4 * n.val)) v) s = .next
          { s with port := { s.port with staging := s.port.staging.set n v } })
      ∧ exec (.registerWrite 0x070 v) s = .next
          { s with timebase := { s.timebase with lateMargin := v.extractLsb' 0 16 } }
      ∧ exec (.registerWrite 0x09C v) s = .next
          { s with seq := { s.seq with emptyReport := v.getLsbD 0 } }
      ∧ (Reg.ofOffset offset = none → exec (.registerWrite offset v) s = .next s)
      ∧ exec (.registerWrite offset v) s = exec (.registerWrite (offset &&& 0x3FC#10) v) s
      ∧ exec (.narrowWrite offset lanes v) s = exec (.narrowWrite (offset &&& 0x3FC#10) lanes v) s
      ∧ (∀ r : Reg, Reg.ofOffset offset = some r → r.hasOwnRow = false →
          (∀ n, r ≠ .stage n) → r ≠ .lateMargin → r ≠ .seqConfig →
          exec (.registerWrite offset v) s = .next s)
      ∧ exec (.busStatusWrite v) s = .next
          { s with bus := { s.bus with narrowFlag := s.bus.narrowFlag && !v.getLsbD 0 } }
      ∧ exec (.intEnableWrite v) s = .next
          { s with irq := { s.irq with enables := v.extractLsb' 0 10 } }
      ∧ exec (.intCauseWrite v) s = .next
          { s with irq := { s.irq with
            causes := s.irq.causes &&& ~~~ v.extractLsb' 0 10
            haltReport := s.irq.haltReport && !v.getLsbD 16
            haltAdmission := s.irq.haltAdmission && !v.getLsbD 17 } }

/-- CONTROL and the resets: the bus-master enable with its event to both rings (R146, R167, R184), soft
reset (R185; AringInv keeps a held engine free of a burst), power-on reset and its end (R186), every value
of the chapters' reset rules written out. While RESET_N is asserted every read returns 0 and every command
but those of the resets, the reads and the master port changes nothing. Log entries: 6 (FAULT_N's level), 8
and 15 (values of fields that no rule gives), 10 (the requests at a power-on reset, where either value of
Config.powerOnWithdraws is allowed), 13 (abandoned fetch), 17 (readData), 23 (the queue), 29 (the held trim
and the draws). -/
def Obligations.ResetsRestoreTheirValues : Prop :=
  ∀ (s : State) (v : Word),
    let abandonedWrite := s.report.ring.abandoned || s.report.inFlight.isSome
    let abandonedFetch := s.aring.ring.abandoned || s.aring.fetch == .burst
    let clears := s.bus.masterEnable = true ∧ v.getLsbD 0 = false
    let stored : State :=
      { s with
        bus := { s.bus with masterEnable := v.getLsbD 0 }
        report := if clears then s.report.turnOff else s.report
        aring := if clears then s.aring.turnOff else s.aring }
    let withdraws := Config.powerOnWithdraws
    (Awake s → v.getLsbD 1 = false → exec (.busMasterEnableWrite v) s = .next stored)
      ∧ (Awake s → AringInv s → v.getLsbD 1 = true → exec (.softReset v) s = .next
        { timebase := { s.timebase with snapshotHold := 0 }
          table := tableAtReset, seq := sequencerAtReset, lines := linesAtReset s.lines.faultSeen
          capture := captureAtReset, response := responseAtReset
          report := reportAtReset abandonedWrite, aring := aringAtReset abandonedFetch
          port := portAtReset, irq := irqAtReset
          bus := { s.bus with masterEnable := v.getLsbD 0, narrowFlag := false }
          resetAsserted := false, periodDraws := s.periodDraws, pending := s.pending })
      ∧ exec .powerOnReset s = .next
        { timebase := timebaseAtPowerOn, table := tableAtReset, seq := sequencerAtReset
          lines := linesAtReset false, capture := captureAtReset, response := responseAtReset
          report := reportAtReset abandonedWrite, aring := aringAtReset abandonedFetch
          port := portAtReset, irq := irqAtReset
          bus :=
            { masterEnable := false, narrowFlag := false, grantMark := .report
              admissionSlot := if withdraws then none else s.bus.admissionSlot
              reportSlot := if withdraws then none else s.bus.reportSlot
              onBus := s.bus.onBus, readData := s.bus.readData }
          resetAsserted := true, periodDraws := s.periodDraws, pending := s.pending }
      ∧ exec .resetNDeassertion s = .next { s with resetAsserted := false }
      ∧ (s.resetAsserted = true →
        (∀ offset : BitVec 10, s.readOffset offset = 0)
          ∧ s.pins = 0 ∧ s.intAsserted = false
          ∧ ∀ c : Instr, ¬ goesOnInReset c → exec c s = .next s)

/-- A grant: only on a free bus, the waiting request, and of two the engine other than the mark, which
then names it (R188; log entry 10 for the mark while RESET_N is asserted). -/
def Obligations.GrantsAlternate : Prop :=
  ∀ s : State,
    let granted (e : Engine) : Prop :=
      exec .burstGrant s = .next
        { s with bus := { s.bus with
          onBus := some e, grantMark := if s.resetAsserted then s.bus.grantMark else e } }
    let waitsA := s.bus.admissionSlot ≠ none
    let waitsR := s.bus.reportSlot ≠ none
    (s.bus.onBus ≠ none ∨ (¬ waitsA ∧ ¬ waitsR) → exec .burstGrant s = .next s)
      ∧ (s.bus.onBus = none → waitsA → (¬ waitsR ∨ s.bus.grantMark = .report) →
          granted .admission)
      ∧ (s.bus.onBus = none → waitsR → (¬ waitsA ∨ s.bus.grantMark = .admission) →
          granted .report)

/-- The identification word: RO, with its three codes, the same at every read and after every reset
(R187). -/
def Obligations.IdentificationWordIsFixed : Prop :=
  ∀ (s : State) (v : Word), Awake s →
    s.readOffset 0x000 = 0x2B160801#32
      ∧ (s.readOffset 0x000).extractLsb' 24 8 = 0x2B#8
      ∧ (s.readOffset 0x000).extractLsb' 8 16 = 0x1608#16
      ∧ (s.readOffset 0x000).extractLsb' 0 8 = 1#8
      ∧ exec (.registerWrite 0x000 v) s = .next s
      ∧ (∀ t, exec (.softReset v) s = .next t → t.readOffset 0x000 = 0x2B160801#32)
      ∧ ∀ t u, exec .powerOnReset s = .next t → exec .resetNDeassertion t = .next u →
          u.readOffset 0x000 = 0x2B160801#32

/-- Every word of the window shows the fields of Table 11-2 at their positions and 0 elsewhere, an unmapped
one 0 (R180, R182, R196, R200). TABLE_STATUS shows the entry count, the reservation count and the free slots
of one instant, and the three always satisfy free slots = 256 - entry count - reservation count (R56); INT_N
is asserted exactly while a cause is both set and enabled, which INT_ACTIVE shows (R193). The ten causes have
the positions of Table 11-2, and the low two bits of an offset are not examined (R180). -/
def Obligations.WindowReadsShowEveryField : Prop :=
  ∀ s : State, Awake s → TableInv s → QueueInv s →
    let word := s.readOffset 0x080
    let entries := s.table.entries.length
    let reservations := s.table.entries.countP (·.reserved)
    (word.extractLsb' 0 10).toNat = entries
      ∧ (word.extractLsb' 10 10).toNat = reservations
      ∧ (word.extractLsb' 20 10).toNat = 256 - entries - reservations
      ∧ word.extractLsb' 30 2 = 0
      ∧ (s.intAsserted = true ↔ s.readOffset 0x018 ≠ 0)
      ∧ (∀ offset, Reg.ofOffset offset = none → s.readOffset offset = 0)
      ∧ (∀ offset, s.readOffset offset = s.readOffset (offset &&& 0x3FC#10))
      ∧ ShowsCauses ∧ ShowsCodes ∧ ShowsPort s ∧ ShowsTime s ∧ ShowsLines s ∧ ShowsCapture s ∧ ShowsRings s

/-- Each of the ten records lies as Tables 11-7 and 11-8 place its fields, with 0 in every other position
(R199). The numbers of reason codes are those WindowReadsShowEveryField gives. -/
def Obligations.RecordsLieAsLaidOut : Prop :=
  let low (t : Time) : Word := t.extractLsb' 0 32
  let high (t : Time) : BitVec 24 := t.extractLsb' 32 24
  (∀ r : CaptureRecord, r.words =
      #v[fields (high r.stamp ++ 0#4 ++ 1#4), low r.stamp,
        fields (one (r.edge == .fall) ++ 0#5 ++ BitVec.ofNat 3 r.line.val), r.seq, fields r.supp,
        0, 0, 0])
    ∧ ∀ time : Time,
      let head (kind : BitVec 4) : Word := fields (high time ++ 0#4 ++ kind)
      let words (b : NoticeBody) : Words8 := (Notice.mk time b).words
      (∀ f : FiredNotice, words (.fired f) =
        #v[fields (high time ++ one f.noRoom ++ one f.trail ++ one f.final ++ one f.late ++ 2#4),
          low time, f.serial, fields (f.remaining ++ f.tag), low f.due, fields (high f.due),
          fields (f.refused.extractLsb' 0 8 ++ f.lateness),
          fields (f.refused.extractLsb' 8 8 ++ f.skipped)])
      ∧ (∀ d : DroppedNotice, words (.dropped d) =
        #v[fields (high time ++ 0#2 ++ one d.final ++ 0#1 ++ 3#4), low time, d.serial,
          fields (d.remaining ++ d.tag), low d.due, fields (high d.due), 0, fields d.skipped])
      ∧ (∀ index reason tag, words (.rejected index reason tag) =
        #v[head 4, low time, fields (reason.code ++ 0#4 ++ index), fields tag, 0, 0, 0, 0])
      ∧ (∀ line stamp reason, words (.responseLost line stamp reason) =
        #v[head 5, low time, fields (reason.code ++ 0#13 ++ BitVec.ofNat 3 line.val), low stamp,
          fields (high stamp), 0, 0, 0])
      ∧ (∀ cause, words (.seqStopped cause) =
        #v[head 6, low time,
          fields (match cause with
            | .reset => 0#2 | .command => 1#2 | .single => 2#2 | .fault => 3#2),
          0, 0, 0, 0, 0])
      ∧ (∀ line final mode, words (.patternStopped line final mode) =
        #v[head 7, low time,
          fields (one (mode == .atBoundary) ++ 0#7 ++ one final ++ 0#4 ++ BitVec.ofNat 4 line.val),
          0, 0, 0, 0, 0])
      ∧ (∀ trim, words (.trimApplied trim) =
        #v[head 8, low time, BitVec.ofInt 32 trim.toInt, 0, 0, 0, 0, 0])
      ∧ words .tableEmpty = #v[head 9, low time, 0, 0, 0, 0, 0, 0]
      ∧ ∀ count, words (.noticeLoss count) = #v[head 10, low time, count, 0, 0, 0, 0, 0]

end
end

