-- ==== Sys2Proof/Laws/State.lean ====
section
/-! SUPPORT. One lemma for each field of State under each shared update, true by unfolding, so that no
proof unfolds a record update. -/

namespace Sys2Proof.Machine

/-! ### raise -/

@[simp] theorem raise_timebase (c : Cause) (s : State) :
    (raise c s).timebase = s.timebase := rfl
@[simp] theorem raise_table (c : Cause) (s : State) :
    (raise c s).table = s.table := rfl
@[simp] theorem raise_seq (c : Cause) (s : State) :
    (raise c s).seq = s.seq := rfl
@[simp] theorem raise_lines (c : Cause) (s : State) :
    (raise c s).lines = s.lines := rfl
@[simp] theorem raise_capture (c : Cause) (s : State) :
    (raise c s).capture = s.capture := rfl
@[simp] theorem raise_response (c : Cause) (s : State) :
    (raise c s).response = s.response := rfl
@[simp] theorem raise_report (c : Cause) (s : State) :
    (raise c s).report = s.report := rfl
@[simp] theorem raise_aring (c : Cause) (s : State) :
    (raise c s).aring = s.aring := rfl
@[simp] theorem raise_port (c : Cause) (s : State) :
    (raise c s).port = s.port := rfl
@[simp] theorem raise_irq (c : Cause) (s : State) :
    (raise c s).irq = s.irq.set c := rfl
@[simp] theorem raise_bus (c : Cause) (s : State) :
    (raise c s).bus = s.bus := rfl
@[simp] theorem raise_resetAsserted (c : Cause) (s : State) :
    (raise c s).resetAsserted = s.resetAsserted := rfl
@[simp] theorem raise_periodDraws (c : Cause) (s : State) :
    (raise c s).periodDraws = s.periodDraws := rfl
@[simp] theorem raise_pending (c : Cause) (s : State) :
    (raise c s).pending = s.pending := rfl

/-! ### raiseIf -/

@[simp] theorem raiseIf_timebase (b : Bool) (c : Cause) (s : State) :
    (raiseIf b c s).timebase = s.timebase := rfl
@[simp] theorem raiseIf_table (b : Bool) (c : Cause) (s : State) :
    (raiseIf b c s).table = s.table := rfl
@[simp] theorem raiseIf_seq (b : Bool) (c : Cause) (s : State) :
    (raiseIf b c s).seq = s.seq := rfl
@[simp] theorem raiseIf_lines (b : Bool) (c : Cause) (s : State) :
    (raiseIf b c s).lines = s.lines := rfl
@[simp] theorem raiseIf_capture (b : Bool) (c : Cause) (s : State) :
    (raiseIf b c s).capture = s.capture := rfl
@[simp] theorem raiseIf_response (b : Bool) (c : Cause) (s : State) :
    (raiseIf b c s).response = s.response := rfl
@[simp] theorem raiseIf_report (b : Bool) (c : Cause) (s : State) :
    (raiseIf b c s).report = s.report := rfl
@[simp] theorem raiseIf_aring (b : Bool) (c : Cause) (s : State) :
    (raiseIf b c s).aring = s.aring := rfl
@[simp] theorem raiseIf_port (b : Bool) (c : Cause) (s : State) :
    (raiseIf b c s).port = s.port := rfl
@[simp] theorem raiseIf_irq (b : Bool) (c : Cause) (s : State) :
    (raiseIf b c s).irq = if b then s.irq.set c else s.irq := rfl
@[simp] theorem raiseIf_bus (b : Bool) (c : Cause) (s : State) :
    (raiseIf b c s).bus = s.bus := rfl
@[simp] theorem raiseIf_resetAsserted (b : Bool) (c : Cause) (s : State) :
    (raiseIf b c s).resetAsserted = s.resetAsserted := rfl
@[simp] theorem raiseIf_periodDraws (b : Bool) (c : Cause) (s : State) :
    (raiseIf b c s).periodDraws = s.periodDraws := rfl
@[simp] theorem raiseIf_pending (b : Bool) (c : Cause) (s : State) :
    (raiseIf b c s).pending = s.pending := rfl

/-! ### offer -/

@[simp] theorem offer_timebase (b : NoticeBody) (s : State) :
    (offer b s).timebase = s.timebase := rfl
@[simp] theorem offer_table (b : NoticeBody) (s : State) :
    (offer b s).table = s.table := rfl
@[simp] theorem offer_seq (b : NoticeBody) (s : State) :
    (offer b s).seq = s.seq := rfl
@[simp] theorem offer_lines (b : NoticeBody) (s : State) :
    (offer b s).lines = s.lines := rfl
@[simp] theorem offer_capture (b : NoticeBody) (s : State) :
    (offer b s).capture = s.capture := rfl
@[simp] theorem offer_response (b : NoticeBody) (s : State) :
    (offer b s).response = s.response := rfl
@[simp] theorem offer_report (b : NoticeBody) (s : State) :
    (offer b s).report = s.report.offer { time := s.timebase.integer, body := b } := rfl
@[simp] theorem offer_aring (b : NoticeBody) (s : State) :
    (offer b s).aring = s.aring := rfl
@[simp] theorem offer_port (b : NoticeBody) (s : State) :
    (offer b s).port = s.port := rfl
@[simp] theorem offer_irq (b : NoticeBody) (s : State) :
    (offer b s).irq = if s.report.hasRoom then s.irq else s.irq.set .noticeLoss := rfl
@[simp] theorem offer_bus (b : NoticeBody) (s : State) :
    (offer b s).bus = s.bus := rfl
@[simp] theorem offer_resetAsserted (b : NoticeBody) (s : State) :
    (offer b s).resetAsserted = s.resetAsserted := rfl
@[simp] theorem offer_periodDraws (b : NoticeBody) (s : State) :
    (offer b s).periodDraws = s.periodDraws := rfl
@[simp] theorem offer_pending (b : NoticeBody) (s : State) :
    (offer b s).pending = s.pending := rfl

/-! ### withEntries -/

@[simp] theorem withEntries_timebase (es : List Entry) (s : State) :
    (s.withEntries es).timebase = s.timebase := rfl
@[simp] theorem withEntries_table (es : List Entry) (s : State) :
    (s.withEntries es).table = { s.table with entries := es } := rfl
@[simp] theorem withEntries_seq (es : List Entry) (s : State) :
    (s.withEntries es).seq = s.seq := rfl
@[simp] theorem withEntries_lines (es : List Entry) (s : State) :
    (s.withEntries es).lines = s.lines := rfl
@[simp] theorem withEntries_capture (es : List Entry) (s : State) :
    (s.withEntries es).capture = s.capture := rfl
@[simp] theorem withEntries_response (es : List Entry) (s : State) :
    (s.withEntries es).response = s.response := rfl
@[simp] theorem withEntries_report (es : List Entry) (s : State) :
    (s.withEntries es).report = s.report := rfl
@[simp] theorem withEntries_aring (es : List Entry) (s : State) :
    (s.withEntries es).aring = s.aring := rfl
@[simp] theorem withEntries_port (es : List Entry) (s : State) :
    (s.withEntries es).port = s.port := rfl
@[simp] theorem withEntries_irq (es : List Entry) (s : State) :
    (s.withEntries es).irq = s.irq := rfl
@[simp] theorem withEntries_bus (es : List Entry) (s : State) :
    (s.withEntries es).bus = s.bus := rfl
@[simp] theorem withEntries_resetAsserted (es : List Entry) (s : State) :
    (s.withEntries es).resetAsserted = s.resetAsserted := rfl
@[simp] theorem withEntries_periodDraws (es : List Entry) (s : State) :
    (s.withEntries es).periodDraws = s.periodDraws := rfl
@[simp] theorem withEntries_pending (es : List Entry) (s : State) :
    (s.withEntries es).pending = s.pending := rfl

/-! ### admitEntry -/

@[simp] theorem admitEntry_timebase (e : Entry) (s : State) :
    (admitEntry e s).timebase = s.timebase := rfl
@[simp] theorem admitEntry_table (e : Entry) (s : State) :
    (admitEntry e s).table = { s.table with entries := insertEntry e s.table.entries, serialNext := s.table.serialNext + 1 } := rfl
@[simp] theorem admitEntry_seq (e : Entry) (s : State) :
    (admitEntry e s).seq = s.seq := rfl
@[simp] theorem admitEntry_lines (e : Entry) (s : State) :
    (admitEntry e s).lines = s.lines := rfl
@[simp] theorem admitEntry_capture (e : Entry) (s : State) :
    (admitEntry e s).capture = s.capture := rfl
@[simp] theorem admitEntry_response (e : Entry) (s : State) :
    (admitEntry e s).response = s.response := rfl
@[simp] theorem admitEntry_report (e : Entry) (s : State) :
    (admitEntry e s).report = s.report := rfl
@[simp] theorem admitEntry_aring (e : Entry) (s : State) :
    (admitEntry e s).aring = s.aring := rfl
@[simp] theorem admitEntry_port (e : Entry) (s : State) :
    (admitEntry e s).port = s.port := rfl
@[simp] theorem admitEntry_irq (e : Entry) (s : State) :
    (admitEntry e s).irq = s.irq := rfl
@[simp] theorem admitEntry_bus (e : Entry) (s : State) :
    (admitEntry e s).bus = s.bus := rfl
@[simp] theorem admitEntry_resetAsserted (e : Entry) (s : State) :
    (admitEntry e s).resetAsserted = s.resetAsserted := rfl
@[simp] theorem admitEntry_periodDraws (e : Entry) (s : State) :
    (admitEntry e s).periodDraws = s.periodDraws := rfl
@[simp] theorem admitEntry_pending (e : Entry) (s : State) :
    (admitEntry e s).pending = s.pending := rfl

/-! ### stopSequencer -/

@[simp] theorem stopSequencer_timebase (c : StopCause) (s : State) :
    (stopSequencer c s).timebase = s.timebase := rfl
@[simp] theorem stopSequencer_table (c : StopCause) (s : State) :
    (stopSequencer c s).table = s.table := rfl
@[simp] theorem stopSequencer_seq (c : StopCause) (s : State) :
    (stopSequencer c s).seq = { s.seq with state := .stopped, stopCause := c } := rfl
@[simp] theorem stopSequencer_lines (c : StopCause) (s : State) :
    (stopSequencer c s).lines = s.lines := rfl
@[simp] theorem stopSequencer_capture (c : StopCause) (s : State) :
    (stopSequencer c s).capture = s.capture := rfl
@[simp] theorem stopSequencer_response (c : StopCause) (s : State) :
    (stopSequencer c s).response = s.response := rfl
@[simp] theorem stopSequencer_report (c : StopCause) (s : State) :
    (stopSequencer c s).report = s.report.offer { time := s.timebase.integer, body := .seqStopped c } := rfl
@[simp] theorem stopSequencer_aring (c : StopCause) (s : State) :
    (stopSequencer c s).aring = s.aring := rfl
@[simp] theorem stopSequencer_port (c : StopCause) (s : State) :
    (stopSequencer c s).port = s.port := rfl
@[simp] theorem stopSequencer_irq (c : StopCause) (s : State) :
    (stopSequencer c s).irq = (if s.report.hasRoom then s.irq else s.irq.set .noticeLoss).set .seqStop := rfl
@[simp] theorem stopSequencer_bus (c : StopCause) (s : State) :
    (stopSequencer c s).bus = s.bus := rfl
@[simp] theorem stopSequencer_resetAsserted (c : StopCause) (s : State) :
    (stopSequencer c s).resetAsserted = s.resetAsserted := rfl
@[simp] theorem stopSequencer_periodDraws (c : StopCause) (s : State) :
    (stopSequencer c s).periodDraws = s.periodDraws := rfl
@[simp] theorem stopSequencer_pending (c : StopCause) (s : State) :
    (stopSequencer c s).pending = s.pending := rfl

/-! ### placeInteger -/

@[simp] theorem placeInteger_timebase (v : Nat) (f : BitVec 24) (s : State) :
    (placeInteger v f s).timebase = { s.timebase with integer := BitVec.ofNat 56 v, fraction := if v = Config.maxTime then 0 else f, heldTrim := if v = Config.maxTime then none else s.timebase.heldTrim } := rfl
@[simp] theorem placeInteger_table (v : Nat) (f : BitVec 24) (s : State) :
    (placeInteger v f s).table = s.table := rfl
@[simp] theorem placeInteger_seq (v : Nat) (f : BitVec 24) (s : State) :
    (placeInteger v f s).seq = s.seq := rfl
@[simp] theorem placeInteger_lines (v : Nat) (f : BitVec 24) (s : State) :
    (placeInteger v f s).lines = s.lines := rfl
@[simp] theorem placeInteger_capture (v : Nat) (f : BitVec 24) (s : State) :
    (placeInteger v f s).capture = s.capture := rfl
@[simp] theorem placeInteger_response (v : Nat) (f : BitVec 24) (s : State) :
    (placeInteger v f s).response = s.response := rfl
@[simp] theorem placeInteger_report (v : Nat) (f : BitVec 24) (s : State) :
    (placeInteger v f s).report = s.report := rfl
@[simp] theorem placeInteger_aring (v : Nat) (f : BitVec 24) (s : State) :
    (placeInteger v f s).aring = s.aring := rfl
@[simp] theorem placeInteger_port (v : Nat) (f : BitVec 24) (s : State) :
    (placeInteger v f s).port = s.port := rfl
@[simp] theorem placeInteger_irq (v : Nat) (f : BitVec 24) (s : State) :
    (placeInteger v f s).irq = if v = Config.maxTime then s.irq.set .timeLimit else s.irq := rfl
@[simp] theorem placeInteger_bus (v : Nat) (f : BitVec 24) (s : State) :
    (placeInteger v f s).bus = s.bus := rfl
@[simp] theorem placeInteger_resetAsserted (v : Nat) (f : BitVec 24) (s : State) :
    (placeInteger v f s).resetAsserted = s.resetAsserted := rfl
@[simp] theorem placeInteger_periodDraws (v : Nat) (f : BitVec 24) (s : State) :
    (placeInteger v f s).periodDraws = s.periodDraws := rfl
@[simp] theorem placeInteger_pending (v : Nat) (f : BitVec 24) (s : State) :
    (placeInteger v f s).pending = s.pending := rfl

/-! ### endPeriod -/

@[simp] theorem endPeriod_timebase (s : State) :
    (endPeriod s).timebase = { s.timebase with heldTrim := none } := rfl
@[simp] theorem endPeriod_table (s : State) :
    (endPeriod s).table = s.table := rfl
@[simp] theorem endPeriod_seq (s : State) :
    (endPeriod s).seq = s.seq := rfl
@[simp] theorem endPeriod_lines (s : State) :
    (endPeriod s).lines = s.lines := rfl
@[simp] theorem endPeriod_capture (s : State) :
    (endPeriod s).capture = s.capture := rfl
@[simp] theorem endPeriod_response (s : State) :
    (endPeriod s).response = s.response := rfl
@[simp] theorem endPeriod_report (s : State) :
    (endPeriod s).report = s.report := rfl
@[simp] theorem endPeriod_aring (s : State) :
    (endPeriod s).aring = s.aring := rfl
@[simp] theorem endPeriod_port (s : State) :
    (endPeriod s).port = s.port := rfl
@[simp] theorem endPeriod_irq (s : State) :
    (endPeriod s).irq = s.irq := rfl
@[simp] theorem endPeriod_bus (s : State) :
    (endPeriod s).bus = s.bus := rfl
@[simp] theorem endPeriod_resetAsserted (s : State) :
    (endPeriod s).resetAsserted = s.resetAsserted := rfl
@[simp] theorem endPeriod_periodDraws (s : State) :
    (endPeriod s).periodDraws = s.periodDraws := rfl
@[simp] theorem endPeriod_pending (s : State) :
    (endPeriod s).pending = s.pending := rfl

/-! ### readTimeLo -/

@[simp] theorem readTimeLo_timebase (s : State) :
    (readTimeLo s).timebase = { s.timebase with snapshotHold := s.timebase.integer.high } := rfl
@[simp] theorem readTimeLo_table (s : State) :
    (readTimeLo s).table = s.table := rfl
@[simp] theorem readTimeLo_seq (s : State) :
    (readTimeLo s).seq = s.seq := rfl
@[simp] theorem readTimeLo_lines (s : State) :
    (readTimeLo s).lines = s.lines := rfl
@[simp] theorem readTimeLo_capture (s : State) :
    (readTimeLo s).capture = s.capture := rfl
@[simp] theorem readTimeLo_response (s : State) :
    (readTimeLo s).response = s.response := rfl
@[simp] theorem readTimeLo_report (s : State) :
    (readTimeLo s).report = s.report := rfl
@[simp] theorem readTimeLo_aring (s : State) :
    (readTimeLo s).aring = s.aring := rfl
@[simp] theorem readTimeLo_port (s : State) :
    (readTimeLo s).port = s.port := rfl
@[simp] theorem readTimeLo_irq (s : State) :
    (readTimeLo s).irq = s.irq := rfl
@[simp] theorem readTimeLo_bus (s : State) :
    (readTimeLo s).bus = { s.bus with readData := s.timebase.integer.low } := rfl
@[simp] theorem readTimeLo_resetAsserted (s : State) :
    (readTimeLo s).resetAsserted = s.resetAsserted := rfl
@[simp] theorem readTimeLo_periodDraws (s : State) :
    (readTimeLo s).periodDraws = s.periodDraws := rfl
@[simp] theorem readTimeLo_pending (s : State) :
    (readTimeLo s).pending = s.pending := rfl

/-! ### readInReset -/

@[simp] theorem readInReset_timebase (s : State) :
    (readInReset s).timebase = s.timebase := rfl
@[simp] theorem readInReset_table (s : State) :
    (readInReset s).table = s.table := rfl
@[simp] theorem readInReset_seq (s : State) :
    (readInReset s).seq = s.seq := rfl
@[simp] theorem readInReset_lines (s : State) :
    (readInReset s).lines = s.lines := rfl
@[simp] theorem readInReset_capture (s : State) :
    (readInReset s).capture = s.capture := rfl
@[simp] theorem readInReset_response (s : State) :
    (readInReset s).response = s.response := rfl
@[simp] theorem readInReset_report (s : State) :
    (readInReset s).report = s.report := rfl
@[simp] theorem readInReset_aring (s : State) :
    (readInReset s).aring = s.aring := rfl
@[simp] theorem readInReset_port (s : State) :
    (readInReset s).port = s.port := rfl
@[simp] theorem readInReset_irq (s : State) :
    (readInReset s).irq = s.irq := rfl
@[simp] theorem readInReset_bus (s : State) :
    (readInReset s).bus = { s.bus with readData := 0 } := rfl
@[simp] theorem readInReset_resetAsserted (s : State) :
    (readInReset s).resetAsserted = s.resetAsserted := rfl
@[simp] theorem readInReset_periodDraws (s : State) :
    (readInReset s).periodDraws = s.periodDraws := rfl
@[simp] theorem readInReset_pending (s : State) :
    (readInReset s).pending = s.pending := rfl

/-! ### readHeadDueLo -/

@[simp] theorem readHeadDueLo_timebase (s : State) :
    (readHeadDueLo s).timebase = s.timebase := rfl
@[simp] theorem readHeadDueLo_table (s : State) :
    (readHeadDueLo s).table = { s.table with headHold := (headDue s.table.entries).high } := rfl
@[simp] theorem readHeadDueLo_seq (s : State) :
    (readHeadDueLo s).seq = s.seq := rfl
@[simp] theorem readHeadDueLo_lines (s : State) :
    (readHeadDueLo s).lines = s.lines := rfl
@[simp] theorem readHeadDueLo_capture (s : State) :
    (readHeadDueLo s).capture = s.capture := rfl
@[simp] theorem readHeadDueLo_response (s : State) :
    (readHeadDueLo s).response = s.response := rfl
@[simp] theorem readHeadDueLo_report (s : State) :
    (readHeadDueLo s).report = s.report := rfl
@[simp] theorem readHeadDueLo_aring (s : State) :
    (readHeadDueLo s).aring = s.aring := rfl
@[simp] theorem readHeadDueLo_port (s : State) :
    (readHeadDueLo s).port = s.port := rfl
@[simp] theorem readHeadDueLo_irq (s : State) :
    (readHeadDueLo s).irq = s.irq := rfl
@[simp] theorem readHeadDueLo_bus (s : State) :
    (readHeadDueLo s).bus = { s.bus with readData := (headDue s.table.entries).low } := rfl
@[simp] theorem readHeadDueLo_resetAsserted (s : State) :
    (readHeadDueLo s).resetAsserted = s.resetAsserted := rfl
@[simp] theorem readHeadDueLo_periodDraws (s : State) :
    (readHeadDueLo s).periodDraws = s.periodDraws := rfl
@[simp] theorem readHeadDueLo_pending (s : State) :
    (readHeadDueLo s).pending = s.pending := rfl

/-! ### boundaryStop -/

@[simp] theorem boundaryStop_timebase (n : Fin 16) (final : Bool) (s : State) :
    (boundaryStop n final s).timebase = s.timebase := rfl
@[simp] theorem boundaryStop_table (n : Fin 16) (final : Bool) (s : State) :
    (boundaryStop n final s).table = s.table := rfl
@[simp] theorem boundaryStop_seq (n : Fin 16) (final : Bool) (s : State) :
    (boundaryStop n final s).seq = s.seq := rfl
@[simp] theorem boundaryStop_lines (n : Fin 16) (final : Bool) (s : State) :
    (boundaryStop n final s).lines = { s.lines.onGens (lineBit n) Generator.stopped with level := setLine s.lines.level n final } := rfl
@[simp] theorem boundaryStop_capture (n : Fin 16) (final : Bool) (s : State) :
    (boundaryStop n final s).capture = s.capture := rfl
@[simp] theorem boundaryStop_response (n : Fin 16) (final : Bool) (s : State) :
    (boundaryStop n final s).response = s.response := rfl
@[simp] theorem boundaryStop_report (n : Fin 16) (final : Bool) (s : State) :
    (boundaryStop n final s).report = s.report.offer { time := s.timebase.integer, body := .patternStopped n final .atBoundary } := rfl
@[simp] theorem boundaryStop_aring (n : Fin 16) (final : Bool) (s : State) :
    (boundaryStop n final s).aring = s.aring := rfl
@[simp] theorem boundaryStop_port (n : Fin 16) (final : Bool) (s : State) :
    (boundaryStop n final s).port = s.port := rfl
@[simp] theorem boundaryStop_irq (n : Fin 16) (final : Bool) (s : State) :
    (boundaryStop n final s).irq = if s.report.hasRoom then s.irq else s.irq.set .noticeLoss := rfl
@[simp] theorem boundaryStop_bus (n : Fin 16) (final : Bool) (s : State) :
    (boundaryStop n final s).bus = s.bus := rfl
@[simp] theorem boundaryStop_resetAsserted (n : Fin 16) (final : Bool) (s : State) :
    (boundaryStop n final s).resetAsserted = s.resetAsserted := rfl
@[simp] theorem boundaryStop_periodDraws (n : Fin 16) (final : Bool) (s : State) :
    (boundaryStop n final s).periodDraws = s.periodDraws := rfl
@[simp] theorem boundaryStop_pending (n : Fin 16) (final : Bool) (s : State) :
    (boundaryStop n final s).pending = s.pending := rfl

/-! ### onInput -/

@[simp] theorem onInput_timebase (n : Fin 8) (f : InputLine → InputLine) (s : State) :
    (onInput n f s).timebase = s.timebase := rfl
@[simp] theorem onInput_table (n : Fin 8) (f : InputLine → InputLine) (s : State) :
    (onInput n f s).table = s.table := rfl
@[simp] theorem onInput_seq (n : Fin 8) (f : InputLine → InputLine) (s : State) :
    (onInput n f s).seq = s.seq := rfl
@[simp] theorem onInput_lines (n : Fin 8) (f : InputLine → InputLine) (s : State) :
    (onInput n f s).lines = s.lines := rfl
@[simp] theorem onInput_capture (n : Fin 8) (f : InputLine → InputLine) (s : State) :
    (onInput n f s).capture = { s.capture with inputs := s.capture.inputs.set n (f s.capture.inputs[n]) } := rfl
@[simp] theorem onInput_response (n : Fin 8) (f : InputLine → InputLine) (s : State) :
    (onInput n f s).response = s.response := rfl
@[simp] theorem onInput_report (n : Fin 8) (f : InputLine → InputLine) (s : State) :
    (onInput n f s).report = s.report := rfl
@[simp] theorem onInput_aring (n : Fin 8) (f : InputLine → InputLine) (s : State) :
    (onInput n f s).aring = s.aring := rfl
@[simp] theorem onInput_port (n : Fin 8) (f : InputLine → InputLine) (s : State) :
    (onInput n f s).port = s.port := rfl
@[simp] theorem onInput_irq (n : Fin 8) (f : InputLine → InputLine) (s : State) :
    (onInput n f s).irq = s.irq := rfl
@[simp] theorem onInput_bus (n : Fin 8) (f : InputLine → InputLine) (s : State) :
    (onInput n f s).bus = s.bus := rfl
@[simp] theorem onInput_resetAsserted (n : Fin 8) (f : InputLine → InputLine) (s : State) :
    (onInput n f s).resetAsserted = s.resetAsserted := rfl
@[simp] theorem onInput_periodDraws (n : Fin 8) (f : InputLine → InputLine) (s : State) :
    (onInput n f s).periodDraws = s.periodDraws := rfl
@[simp] theorem onInput_pending (n : Fin 8) (f : InputLine → InputLine) (s : State) :
    (onInput n f s).pending = s.pending := rfl

/-! ### onTemplate -/

@[simp] theorem onTemplate_timebase (n : Fin 8) (f : Template → Template) (s : State) :
    (onTemplate n f s).timebase = s.timebase := rfl
@[simp] theorem onTemplate_table (n : Fin 8) (f : Template → Template) (s : State) :
    (onTemplate n f s).table = s.table := rfl
@[simp] theorem onTemplate_seq (n : Fin 8) (f : Template → Template) (s : State) :
    (onTemplate n f s).seq = s.seq := rfl
@[simp] theorem onTemplate_lines (n : Fin 8) (f : Template → Template) (s : State) :
    (onTemplate n f s).lines = s.lines := rfl
@[simp] theorem onTemplate_capture (n : Fin 8) (f : Template → Template) (s : State) :
    (onTemplate n f s).capture = s.capture := rfl
@[simp] theorem onTemplate_response (n : Fin 8) (f : Template → Template) (s : State) :
    (onTemplate n f s).response = { s.response with templates := s.response.templates.set n (f s.response.templates[n]) } := rfl
@[simp] theorem onTemplate_report (n : Fin 8) (f : Template → Template) (s : State) :
    (onTemplate n f s).report = s.report := rfl
@[simp] theorem onTemplate_aring (n : Fin 8) (f : Template → Template) (s : State) :
    (onTemplate n f s).aring = s.aring := rfl
@[simp] theorem onTemplate_port (n : Fin 8) (f : Template → Template) (s : State) :
    (onTemplate n f s).port = s.port := rfl
@[simp] theorem onTemplate_irq (n : Fin 8) (f : Template → Template) (s : State) :
    (onTemplate n f s).irq = s.irq := rfl
@[simp] theorem onTemplate_bus (n : Fin 8) (f : Template → Template) (s : State) :
    (onTemplate n f s).bus = s.bus := rfl
@[simp] theorem onTemplate_resetAsserted (n : Fin 8) (f : Template → Template) (s : State) :
    (onTemplate n f s).resetAsserted = s.resetAsserted := rfl
@[simp] theorem onTemplate_periodDraws (n : Fin 8) (f : Template → Template) (s : State) :
    (onTemplate n f s).periodDraws = s.periodDraws := rfl
@[simp] theorem onTemplate_pending (n : Fin 8) (f : Template → Template) (s : State) :
    (onTemplate n f s).pending = s.pending := rfl

/-! ### onReport -/

@[simp] theorem onReport_timebase (f : ReportUnit → ReportUnit) (s : State) :
    (onReport f s).timebase = s.timebase := rfl
@[simp] theorem onReport_table (f : ReportUnit → ReportUnit) (s : State) :
    (onReport f s).table = s.table := rfl
@[simp] theorem onReport_seq (f : ReportUnit → ReportUnit) (s : State) :
    (onReport f s).seq = s.seq := rfl
@[simp] theorem onReport_lines (f : ReportUnit → ReportUnit) (s : State) :
    (onReport f s).lines = s.lines := rfl
@[simp] theorem onReport_capture (f : ReportUnit → ReportUnit) (s : State) :
    (onReport f s).capture = s.capture := rfl
@[simp] theorem onReport_response (f : ReportUnit → ReportUnit) (s : State) :
    (onReport f s).response = s.response := rfl
@[simp] theorem onReport_report (f : ReportUnit → ReportUnit) (s : State) :
    (onReport f s).report = f s.report := rfl
@[simp] theorem onReport_aring (f : ReportUnit → ReportUnit) (s : State) :
    (onReport f s).aring = s.aring := rfl
@[simp] theorem onReport_port (f : ReportUnit → ReportUnit) (s : State) :
    (onReport f s).port = s.port := rfl
@[simp] theorem onReport_irq (f : ReportUnit → ReportUnit) (s : State) :
    (onReport f s).irq = s.irq := rfl
@[simp] theorem onReport_bus (f : ReportUnit → ReportUnit) (s : State) :
    (onReport f s).bus = s.bus := rfl
@[simp] theorem onReport_resetAsserted (f : ReportUnit → ReportUnit) (s : State) :
    (onReport f s).resetAsserted = s.resetAsserted := rfl
@[simp] theorem onReport_periodDraws (f : ReportUnit → ReportUnit) (s : State) :
    (onReport f s).periodDraws = s.periodDraws := rfl
@[simp] theorem onReport_pending (f : ReportUnit → ReportUnit) (s : State) :
    (onReport f s).pending = s.pending := rfl

/-! ### onAring -/

@[simp] theorem onAring_timebase (f : AdmissionRing → AdmissionRing) (s : State) :
    (onAring f s).timebase = s.timebase := rfl
@[simp] theorem onAring_table (f : AdmissionRing → AdmissionRing) (s : State) :
    (onAring f s).table = s.table := rfl
@[simp] theorem onAring_seq (f : AdmissionRing → AdmissionRing) (s : State) :
    (onAring f s).seq = s.seq := rfl
@[simp] theorem onAring_lines (f : AdmissionRing → AdmissionRing) (s : State) :
    (onAring f s).lines = s.lines := rfl
@[simp] theorem onAring_capture (f : AdmissionRing → AdmissionRing) (s : State) :
    (onAring f s).capture = s.capture := rfl
@[simp] theorem onAring_response (f : AdmissionRing → AdmissionRing) (s : State) :
    (onAring f s).response = s.response := rfl
@[simp] theorem onAring_report (f : AdmissionRing → AdmissionRing) (s : State) :
    (onAring f s).report = s.report := rfl
@[simp] theorem onAring_aring (f : AdmissionRing → AdmissionRing) (s : State) :
    (onAring f s).aring = f s.aring := rfl
@[simp] theorem onAring_port (f : AdmissionRing → AdmissionRing) (s : State) :
    (onAring f s).port = s.port := rfl
@[simp] theorem onAring_irq (f : AdmissionRing → AdmissionRing) (s : State) :
    (onAring f s).irq = s.irq := rfl
@[simp] theorem onAring_bus (f : AdmissionRing → AdmissionRing) (s : State) :
    (onAring f s).bus = s.bus := rfl
@[simp] theorem onAring_resetAsserted (f : AdmissionRing → AdmissionRing) (s : State) :
    (onAring f s).resetAsserted = s.resetAsserted := rfl
@[simp] theorem onAring_periodDraws (f : AdmissionRing → AdmissionRing) (s : State) :
    (onAring f s).periodDraws = s.periodDraws := rfl
@[simp] theorem onAring_pending (f : AdmissionRing → AdmissionRing) (s : State) :
    (onAring f s).pending = s.pending := rfl

/-! ### startWrite -/

@[simp] theorem startWrite_timebase (src : Source) (s : State) :
    (startWrite src s).timebase = s.timebase := rfl
@[simp] theorem startWrite_table (src : Source) (s : State) :
    (startWrite src s).table = s.table := rfl
@[simp] theorem startWrite_seq (src : Source) (s : State) :
    (startWrite src s).seq = s.seq := rfl
@[simp] theorem startWrite_lines (src : Source) (s : State) :
    (startWrite src s).lines = s.lines := rfl
@[simp] theorem startWrite_capture (src : Source) (s : State) :
    (startWrite src s).capture = s.capture := rfl
@[simp] theorem startWrite_response (src : Source) (s : State) :
    (startWrite src s).response = s.response := rfl
@[simp] theorem startWrite_report (src : Source) (s : State) :
    (startWrite src s).report = { s.report with inFlight := some src } := rfl
@[simp] theorem startWrite_aring (src : Source) (s : State) :
    (startWrite src s).aring = s.aring := rfl
@[simp] theorem startWrite_port (src : Source) (s : State) :
    (startWrite src s).port = s.port := rfl
@[simp] theorem startWrite_irq (src : Source) (s : State) :
    (startWrite src s).irq = s.irq := rfl
@[simp] theorem startWrite_bus (src : Source) (s : State) :
    (startWrite src s).bus = { s.bus with reportSlot := some { address := s.report.ring.address s.report.ring.prod, data := headRecord src s } } := rfl
@[simp] theorem startWrite_resetAsserted (src : Source) (s : State) :
    (startWrite src s).resetAsserted = s.resetAsserted := rfl
@[simp] theorem startWrite_periodDraws (src : Source) (s : State) :
    (startWrite src s).periodDraws = s.periodDraws := rfl
@[simp] theorem startWrite_pending (src : Source) (s : State) :
    (startWrite src s).pending = s.pending := rfl

/-! ### signalReport -/

@[simp] theorem signalReport_timebase (s : State) :
    (signalReport s).timebase = s.timebase := rfl
@[simp] theorem signalReport_table (s : State) :
    (signalReport s).table = s.table := rfl
@[simp] theorem signalReport_seq (s : State) :
    (signalReport s).seq = s.seq := rfl
@[simp] theorem signalReport_lines (s : State) :
    (signalReport s).lines = s.lines := rfl
@[simp] theorem signalReport_capture (s : State) :
    (signalReport s).capture = s.capture := rfl
@[simp] theorem signalReport_response (s : State) :
    (signalReport s).response = s.response := rfl
@[simp] theorem signalReport_report (s : State) :
    (signalReport s).report = { s.report with count := 0 } := rfl
@[simp] theorem signalReport_aring (s : State) :
    (signalReport s).aring = s.aring := rfl
@[simp] theorem signalReport_port (s : State) :
    (signalReport s).port = s.port := rfl
@[simp] theorem signalReport_irq (s : State) :
    (signalReport s).irq = s.irq.set .report := rfl
@[simp] theorem signalReport_bus (s : State) :
    (signalReport s).bus = s.bus := rfl
@[simp] theorem signalReport_resetAsserted (s : State) :
    (signalReport s).resetAsserted = s.resetAsserted := rfl
@[simp] theorem signalReport_periodDraws (s : State) :
    (signalReport s).periodDraws = s.periodDraws := rfl
@[simp] theorem signalReport_pending (s : State) :
    (signalReport s).pending = s.pending := rfl

/-! ### releaseReportSlot -/

@[simp] theorem releaseReportSlot_timebase (s : State) :
    (releaseReportSlot s).timebase = s.timebase := rfl
@[simp] theorem releaseReportSlot_table (s : State) :
    (releaseReportSlot s).table = s.table := rfl
@[simp] theorem releaseReportSlot_seq (s : State) :
    (releaseReportSlot s).seq = s.seq := rfl
@[simp] theorem releaseReportSlot_lines (s : State) :
    (releaseReportSlot s).lines = s.lines := rfl
@[simp] theorem releaseReportSlot_capture (s : State) :
    (releaseReportSlot s).capture = s.capture := rfl
@[simp] theorem releaseReportSlot_response (s : State) :
    (releaseReportSlot s).response = s.response := rfl
@[simp] theorem releaseReportSlot_report (s : State) :
    (releaseReportSlot s).report = s.report := rfl
@[simp] theorem releaseReportSlot_aring (s : State) :
    (releaseReportSlot s).aring = s.aring := rfl
@[simp] theorem releaseReportSlot_port (s : State) :
    (releaseReportSlot s).port = s.port := rfl
@[simp] theorem releaseReportSlot_irq (s : State) :
    (releaseReportSlot s).irq = s.irq := rfl
@[simp] theorem releaseReportSlot_bus (s : State) :
    (releaseReportSlot s).bus = { s.bus with reportSlot := none, onBus := none } := rfl
@[simp] theorem releaseReportSlot_resetAsserted (s : State) :
    (releaseReportSlot s).resetAsserted = s.resetAsserted := rfl
@[simp] theorem releaseReportSlot_periodDraws (s : State) :
    (releaseReportSlot s).periodDraws = s.periodDraws := rfl
@[simp] theorem releaseReportSlot_pending (s : State) :
    (releaseReportSlot s).pending = s.pending := rfl

/-! ### releaseAdmissionSlot -/

@[simp] theorem releaseAdmissionSlot_timebase (s : State) :
    (releaseAdmissionSlot s).timebase = s.timebase := rfl
@[simp] theorem releaseAdmissionSlot_table (s : State) :
    (releaseAdmissionSlot s).table = s.table := rfl
@[simp] theorem releaseAdmissionSlot_seq (s : State) :
    (releaseAdmissionSlot s).seq = s.seq := rfl
@[simp] theorem releaseAdmissionSlot_lines (s : State) :
    (releaseAdmissionSlot s).lines = s.lines := rfl
@[simp] theorem releaseAdmissionSlot_capture (s : State) :
    (releaseAdmissionSlot s).capture = s.capture := rfl
@[simp] theorem releaseAdmissionSlot_response (s : State) :
    (releaseAdmissionSlot s).response = s.response := rfl
@[simp] theorem releaseAdmissionSlot_report (s : State) :
    (releaseAdmissionSlot s).report = s.report := rfl
@[simp] theorem releaseAdmissionSlot_aring (s : State) :
    (releaseAdmissionSlot s).aring = s.aring := rfl
@[simp] theorem releaseAdmissionSlot_port (s : State) :
    (releaseAdmissionSlot s).port = s.port := rfl
@[simp] theorem releaseAdmissionSlot_irq (s : State) :
    (releaseAdmissionSlot s).irq = s.irq := rfl
@[simp] theorem releaseAdmissionSlot_bus (s : State) :
    (releaseAdmissionSlot s).bus = { s.bus with admissionSlot := none, onBus := none } := rfl
@[simp] theorem releaseAdmissionSlot_resetAsserted (s : State) :
    (releaseAdmissionSlot s).resetAsserted = s.resetAsserted := rfl
@[simp] theorem releaseAdmissionSlot_periodDraws (s : State) :
    (releaseAdmissionSlot s).periodDraws = s.periodDraws := rfl
@[simp] theorem releaseAdmissionSlot_pending (s : State) :
    (releaseAdmissionSlot s).pending = s.pending := rfl

/-! ### grant -/

@[simp] theorem grant_timebase (e : Engine) (s : State) :
    (grant e s).timebase = s.timebase := rfl
@[simp] theorem grant_table (e : Engine) (s : State) :
    (grant e s).table = s.table := rfl
@[simp] theorem grant_seq (e : Engine) (s : State) :
    (grant e s).seq = s.seq := rfl
@[simp] theorem grant_lines (e : Engine) (s : State) :
    (grant e s).lines = s.lines := rfl
@[simp] theorem grant_capture (e : Engine) (s : State) :
    (grant e s).capture = s.capture := rfl
@[simp] theorem grant_response (e : Engine) (s : State) :
    (grant e s).response = s.response := rfl
@[simp] theorem grant_report (e : Engine) (s : State) :
    (grant e s).report = s.report := rfl
@[simp] theorem grant_aring (e : Engine) (s : State) :
    (grant e s).aring = s.aring := rfl
@[simp] theorem grant_port (e : Engine) (s : State) :
    (grant e s).port = s.port := rfl
@[simp] theorem grant_irq (e : Engine) (s : State) :
    (grant e s).irq = s.irq := rfl
@[simp] theorem grant_bus (e : Engine) (s : State) :
    (grant e s).bus = { s.bus with onBus := some e, grantMark := if s.resetAsserted then s.bus.grantMark else e } := rfl
@[simp] theorem grant_resetAsserted (e : Engine) (s : State) :
    (grant e s).resetAsserted = s.resetAsserted := rfl
@[simp] theorem grant_periodDraws (e : Engine) (s : State) :
    (grant e s).periodDraws = s.periodDraws := rfl
@[simp] theorem grant_pending (e : Engine) (s : State) :
    (grant e s).pending = s.pending := rfl

/-! ### softReset -/

@[simp] theorem softReset_timebase (s : State) :
    (softReset s).timebase = { s.timebase with snapshotHold := 0 } := rfl
@[simp] theorem softReset_table (s : State) :
    (softReset s).table = Table.reset := rfl
@[simp] theorem softReset_seq (s : State) :
    (softReset s).seq = Sequencer.reset := rfl
@[simp] theorem softReset_lines (s : State) :
    (softReset s).lines = { LineUnit.reset with faultSeen := s.lines.faultSeen } := rfl
@[simp] theorem softReset_capture (s : State) :
    (softReset s).capture = CaptureUnit.reset := rfl
@[simp] theorem softReset_response (s : State) :
    (softReset s).response = ResponseUnit.reset := rfl
@[simp] theorem softReset_report (s : State) :
    (softReset s).report = s.report.afterReset := rfl
@[simp] theorem softReset_aring (s : State) :
    (softReset s).aring = s.aring.afterReset := rfl
@[simp] theorem softReset_port (s : State) :
    (softReset s).port = CommandPort.reset := rfl
@[simp] theorem softReset_irq (s : State) :
    (softReset s).irq = InterruptUnit.reset := rfl
@[simp] theorem softReset_bus (s : State) :
    (softReset s).bus = { s.bus with narrowFlag := false } := rfl
@[simp] theorem softReset_resetAsserted (s : State) :
    (softReset s).resetAsserted = s.resetAsserted := rfl
@[simp] theorem softReset_periodDraws (s : State) :
    (softReset s).periodDraws = s.periodDraws := rfl
@[simp] theorem softReset_pending (s : State) :
    (softReset s).pending = s.pending := rfl

/-! ### powerOnReset -/

@[simp] theorem powerOnReset_timebase (s : State) :
    (powerOnReset s).timebase = Timebase.reset := rfl
@[simp] theorem powerOnReset_table (s : State) :
    (powerOnReset s).table = Table.reset := rfl
@[simp] theorem powerOnReset_seq (s : State) :
    (powerOnReset s).seq = Sequencer.reset := rfl
@[simp] theorem powerOnReset_lines (s : State) :
    (powerOnReset s).lines = LineUnit.reset := rfl
@[simp] theorem powerOnReset_capture (s : State) :
    (powerOnReset s).capture = CaptureUnit.reset := rfl
@[simp] theorem powerOnReset_response (s : State) :
    (powerOnReset s).response = ResponseUnit.reset := rfl
@[simp] theorem powerOnReset_report (s : State) :
    (powerOnReset s).report = s.report.afterReset := rfl
@[simp] theorem powerOnReset_aring (s : State) :
    (powerOnReset s).aring = s.aring.afterReset := rfl
@[simp] theorem powerOnReset_port (s : State) :
    (powerOnReset s).port = CommandPort.reset := rfl
@[simp] theorem powerOnReset_irq (s : State) :
    (powerOnReset s).irq = InterruptUnit.reset := rfl
@[simp] theorem powerOnReset_bus (s : State) :
    (powerOnReset s).bus = { BusInterface.reset with admissionSlot := slotAfterPowerOn s.bus.admissionSlot, reportSlot := slotAfterPowerOn s.bus.reportSlot, onBus := s.bus.onBus, readData := s.bus.readData } := rfl
@[simp] theorem powerOnReset_resetAsserted (s : State) :
    (powerOnReset s).resetAsserted = true := rfl
@[simp] theorem powerOnReset_periodDraws (s : State) :
    (powerOnReset s).periodDraws = s.periodDraws := rfl
@[simp] theorem powerOnReset_pending (s : State) :
    (powerOnReset s).pending = s.pending := rfl

end Sys2Proof.Machine
end

