-- ==== Sys2Proof/Laws/Ops.lean ====
section
/-! SUPPORT. What each shared operation can do, said once: outcomes, notices, the table's list, the
occupancy-fall signal, a command taken, masks, the resets, the window's writes and
reads. -/

namespace Sys2Proof.Machine

/-! ### Outcomes -/

theorem live_of_awake {s : State} {f : State → State} (h : s.resetAsserted = false) :
    live s f = .next (f s) := by
  simp [live, h]

theorem live_of_asserted {s : State} {f : State → State} (h : s.resetAsserted = true) :
    live s f = .next s := by
  simp [live, h]

/-- An event at the part answers a next state, and which. -/
theorem live_eq_next {s t : State} {f : State → State} :
    live s f = .next t ↔ t = if s.resetAsserted then s else f s := by
  simp only [live, Host.Outcome.next.injEq]
  exact eq_comm

/-! ### Notices -/

theorem offer_of_room {u : ReportUnit} (n : Notice) (h : u.notices.length < Config.noticeSlots) :
    u.offer n = { u with notices := u.notices ++ [n] } := by
  simp [ReportUnit.offer, ReportUnit.hasRoom, h]

theorem offer_of_full {u : ReportUnit} (n : Notice) (h : ¬ u.notices.length < Config.noticeSlots) :
    u.offer n = { u with noticeLoss := satInc u.noticeLoss } := by
  simp [ReportUnit.offer, ReportUnit.hasRoom, h]

/-- An offered notice touches the queue and the loss counter alone. -/
theorem offer_keeps (u : ReportUnit) (n : Notice) :
    (u.offer n).state = u.state ∧ (u.offer n).ring = u.ring ∧ (u.offer n).inFlight = u.inFlight
      ∧ (u.offer n).lastSource = u.lastSource ∧ (u.offer n).threshold = u.threshold
      ∧ (u.offer n).delay = u.delay ∧ (u.offer n).count = u.count
      ∧ (u.offer n).waitStart = u.waitStart := by
  unfold ReportUnit.offer
  split <;> simp

/-- The queue after an offer: one record more, or as it was. -/
theorem offer_notices (u : ReportUnit) (n : Notice) :
    (u.offer n).notices = if u.notices.length < Config.noticeSlots then u.notices ++ [n]
      else u.notices := by
  by_cases h : u.notices.length < Config.noticeSlots
  · simp [offer_of_room n h, h]
  · simp [offer_of_full n h, h]

@[simp] theorem offerIf_timebase (c : Bool) (b : NoticeBody) (s : State) :
    (offerIf c b s).timebase = s.timebase := by
  cases c <;> rfl

@[simp] theorem offerIf_table (c : Bool) (b : NoticeBody) (s : State) :
    (offerIf c b s).table = s.table := by
  cases c <;> rfl

@[simp] theorem offerIf_seq (c : Bool) (b : NoticeBody) (s : State) :
    (offerIf c b s).seq = s.seq := by
  cases c <;> rfl

@[simp] theorem offerIf_lines (c : Bool) (b : NoticeBody) (s : State) :
    (offerIf c b s).lines = s.lines := by
  cases c <;> rfl

@[simp] theorem offerIf_capture (c : Bool) (b : NoticeBody) (s : State) :
    (offerIf c b s).capture = s.capture := by
  cases c <;> rfl

@[simp] theorem offerIf_response (c : Bool) (b : NoticeBody) (s : State) :
    (offerIf c b s).response = s.response := by
  cases c <;> rfl

@[simp] theorem offerIf_aring (c : Bool) (b : NoticeBody) (s : State) :
    (offerIf c b s).aring = s.aring := by
  cases c <;> rfl

@[simp] theorem offerIf_port (c : Bool) (b : NoticeBody) (s : State) :
    (offerIf c b s).port = s.port := by
  cases c <;> rfl

@[simp] theorem offerIf_bus (c : Bool) (b : NoticeBody) (s : State) :
    (offerIf c b s).bus = s.bus := by
  cases c <;> rfl

@[simp] theorem offerIf_resetAsserted (c : Bool) (b : NoticeBody) (s : State) :
    (offerIf c b s).resetAsserted = s.resetAsserted := by
  cases c <;> rfl

@[simp] theorem offerIf_periodDraws (c : Bool) (b : NoticeBody) (s : State) :
    (offerIf c b s).periodDraws = s.periodDraws := by
  cases c <;> rfl

@[simp] theorem offerIf_pending (c : Bool) (b : NoticeBody) (s : State) :
    (offerIf c b s).pending = s.pending := by
  cases c <;> rfl

@[simp] theorem offerAll_timebase (bs : List NoticeBody) (s : State) :
    (offerAll bs s).timebase = s.timebase := by
  induction bs generalizing s with
  | nil => rfl
  | cons b rest ih => rw [offerAll, ih]; rfl

@[simp] theorem offerAll_table (bs : List NoticeBody) (s : State) :
    (offerAll bs s).table = s.table := by
  induction bs generalizing s with
  | nil => rfl
  | cons b rest ih => rw [offerAll, ih]; rfl

@[simp] theorem offerAll_seq (bs : List NoticeBody) (s : State) :
    (offerAll bs s).seq = s.seq := by
  induction bs generalizing s with
  | nil => rfl
  | cons b rest ih => rw [offerAll, ih]; rfl

@[simp] theorem offerAll_lines (bs : List NoticeBody) (s : State) :
    (offerAll bs s).lines = s.lines := by
  induction bs generalizing s with
  | nil => rfl
  | cons b rest ih => rw [offerAll, ih]; rfl

@[simp] theorem offerAll_capture (bs : List NoticeBody) (s : State) :
    (offerAll bs s).capture = s.capture := by
  induction bs generalizing s with
  | nil => rfl
  | cons b rest ih => rw [offerAll, ih]; rfl

@[simp] theorem offerAll_response (bs : List NoticeBody) (s : State) :
    (offerAll bs s).response = s.response := by
  induction bs generalizing s with
  | nil => rfl
  | cons b rest ih => rw [offerAll, ih]; rfl

@[simp] theorem offerAll_aring (bs : List NoticeBody) (s : State) :
    (offerAll bs s).aring = s.aring := by
  induction bs generalizing s with
  | nil => rfl
  | cons b rest ih => rw [offerAll, ih]; rfl

@[simp] theorem offerAll_port (bs : List NoticeBody) (s : State) :
    (offerAll bs s).port = s.port := by
  induction bs generalizing s with
  | nil => rfl
  | cons b rest ih => rw [offerAll, ih]; rfl

@[simp] theorem offerAll_bus (bs : List NoticeBody) (s : State) :
    (offerAll bs s).bus = s.bus := by
  induction bs generalizing s with
  | nil => rfl
  | cons b rest ih => rw [offerAll, ih]; rfl

@[simp] theorem offerAll_resetAsserted (bs : List NoticeBody) (s : State) :
    (offerAll bs s).resetAsserted = s.resetAsserted := by
  induction bs generalizing s with
  | nil => rfl
  | cons b rest ih => rw [offerAll, ih]; rfl

@[simp] theorem offerAll_periodDraws (bs : List NoticeBody) (s : State) :
    (offerAll bs s).periodDraws = s.periodDraws := by
  induction bs generalizing s with
  | nil => rfl
  | cons b rest ih => rw [offerAll, ih]; rfl

@[simp] theorem offerAll_pending (bs : List NoticeBody) (s : State) :
    (offerAll bs s).pending = s.pending := by
  induction bs generalizing s with
  | nil => rfl
  | cons b rest ih => rw [offerAll, ih]; rfl

/-! ### The table's list -/

theorem insertEntry_nil (e : Entry) : insertEntry e [] = [e] := rfl

/-- The entries after an insertion are the entry and those that were there. -/
theorem insertEntry_perm (e : Entry) (es : List Entry) : (insertEntry e es).Perm (e :: es) := by
  induction es with
  | nil => rfl
  | cons x rest ih =>
    unfold insertEntry
    split
    · exact (ih.cons x).trans (List.Perm.swap e x rest)
    · rfl

theorem mem_insertEntry {x e : Entry} {es : List Entry} :
    x ∈ insertEntry e es ↔ x = e ∨ x ∈ es := by
  rw [(insertEntry_perm e es).mem_iff, List.mem_cons]

@[simp] theorem length_insertEntry (e : Entry) (es : List Entry) :
    (insertEntry e es).length = es.length + 1 := by
  rw [(insertEntry_perm e es).length_eq, List.length_cons]

/-- An insertion keeps the list in due order (R39, R40). -/
theorem pairwise_insertEntry {e : Entry} {es : List Entry}
    (h : es.Pairwise fun a b => a.due.toNat ≤ b.due.toNat) :
    (insertEntry e es).Pairwise fun a b => a.due.toNat ≤ b.due.toNat := by
  induction es with
  | nil => simp [insertEntry]
  | cons x rest ih =>
    rw [List.pairwise_cons] at h
    unfold insertEntry
    split
    · rename_i hx
      rw [List.pairwise_cons]
      refine ⟨fun y hy => ?_, ih h.2⟩
      rcases mem_insertEntry.mp hy with rfl | hy
      · exact hx
      · exact h.1 y hy
    · rename_i hx
      rw [List.pairwise_cons]
      refine ⟨fun y hy => ?_, List.pairwise_cons.mpr h⟩
      rcases List.mem_cons.mp hy with rfl | hy
      · omega
      · have := h.1 y hy
        omega

theorem reservationsOf_perm {a b : List Entry} (h : a.Perm b) :
    reservationsOf a = reservationsOf b := h.countP_eq _

/-- Occupancy counts entries and reservations, not their order (R37). -/
theorem occupancyOf_perm {a b : List Entry} (h : a.Perm b) : occupancyOf a = occupancyOf b := by
  rw [occupancyOf, occupancyOf, h.length_eq, reservationsOf_perm h]

theorem occupancyOf_cons (e : Entry) (es : List Entry) :
    occupancyOf (e :: es) = occupancyOf es + 1 + if e.reserved then 1 else 0 := by
  simp only [occupancyOf, reservationsOf, List.length_cons, List.countP_cons]
  omega

/-- An insertion adds one slot, and one more for a reservation (R37). -/
theorem occupancyOf_insertEntry (e : Entry) (es : List Entry) :
    occupancyOf (insertEntry e es) = occupancyOf es + 1 + if e.reserved then 1 else 0 := by
  rw [occupancyOf_perm (insertEntry_perm e es), occupancyOf_cons]

/-- Removing entries does not raise occupancy. -/
theorem occupancyOf_sublist {a b : List Entry} (h : a.Sublist b) :
    occupancyOf a ≤ occupancyOf b :=
  Nat.add_le_add h.length_le h.countP_le

theorem occupancyOf_filter_le (p : Entry → Bool) (es : List Entry) :
    occupancyOf (es.filter p) ≤ occupancyOf es :=
  occupancyOf_sublist List.filter_sublist

/-- What a split finds: an element with the property, and the list without it. -/
theorem splitFirst_some {α : Type} {p : α → Bool} {l : List α} {x : α} {others : List α}
    (h : splitFirst p l = some (x, others)) :
    p x = true ∧ l.Perm (x :: others) ∧ others.Sublist l := by
  induction l generalizing others with
  | nil => simp [splitFirst] at h
  | cons y rest ih =>
    unfold splitFirst at h
    split at h
    · rename_i hy
      obtain ⟨rfl, rfl⟩ : y = x ∧ rest = others := by simpa using h
      exact ⟨hy, List.Perm.refl _, List.sublist_cons_self _ _⟩
    · cases hs : splitFirst p rest with
      | none => simp [hs] at h
      | some r =>
        obtain ⟨z, zs⟩ := r
        simp only [hs, Option.some.injEq, Prod.mk.injEq] at h
        obtain ⟨rfl, rfl⟩ := h
        obtain ⟨h1, h2, h3⟩ := ih hs
        exact ⟨h1, (h2.cons y).trans (List.Perm.swap z y zs), h3.cons_cons y⟩

/-- No split: no element has the property. -/
theorem splitFirst_none {α : Type} {p : α → Bool} {l : List α} :
    splitFirst p l = none ↔ ∀ x ∈ l, p x = false := by
  induction l with
  | nil => simp [splitFirst]
  | cons y rest ih =>
    unfold splitFirst
    by_cases hy : p y = true
    · simp [hy]
    · cases hs : splitFirst p rest with
      | none => simpa [hy, hs] using ih.mp hs
      | some r =>
        have hne : ¬ ∀ x ∈ rest, p x = false := fun h => by simp [ih.mpr h] at hs
        simp only [hy, Bool.false_eq_true, if_false, reduceCtorEq, false_iff, List.mem_cons]
        exact fun h => hne fun x hx => h x (Or.inr hx)

/-- The entry a taking names stands in the table, its due has come, and in STOPPED it is a TRAIL
(R45, R65). -/
theorem selectEntry_some {s : State} {e : Entry} {rest : List Entry}
    (h : selectEntry s = some (e, rest)) :
    e.due.toNat ≤ s.timebase.integer.toNat ∧ s.table.entries.Perm (e :: rest)
      ∧ rest.Sublist s.table.entries ∧ (s.seq.state = .stopped → e.isTrail = true) := by
  unfold selectEntry at h
  split at h
  · obtain ⟨h1, h2, h3⟩ := splitFirst_some h
    simp only [Entry.isDue, Bool.and_eq_true, decide_eq_true_eq] at h1
    exact ⟨h1.2, h2, h3, fun _ => h1.1⟩
  all_goals
    rename_i hs
    split at h
    · simp at h
    · rename_i x xs hx
      split at h
      · rename_i hd
        obtain ⟨rfl, rfl⟩ : x = e ∧ xs = rest := by simpa using h
        refine ⟨by simpa [Entry.isDue] using hd, by rw [hx], by
          rw [hx]; exact List.sublist_cons_self _ _, fun h0 => by simp [hs] at h0⟩
      · simp at h

/-! ### The occupancy-fall signal -/

@[simp] theorem signalFall_timebase (before : Nat) (s : State) :
    (signalFall before s).timebase = s.timebase := by
  unfold signalFall; split <;> rfl

@[simp] theorem signalFall_table (before : Nat) (s : State) :
    (signalFall before s).table = s.table := by
  unfold signalFall; split <;> rfl

@[simp] theorem signalFall_seq (before : Nat) (s : State) :
    (signalFall before s).seq = s.seq := by
  unfold signalFall; split <;> rfl

@[simp] theorem signalFall_lines (before : Nat) (s : State) :
    (signalFall before s).lines = s.lines := by
  unfold signalFall; split <;> rfl

@[simp] theorem signalFall_capture (before : Nat) (s : State) :
    (signalFall before s).capture = s.capture := by
  unfold signalFall; split <;> rfl

@[simp] theorem signalFall_response (before : Nat) (s : State) :
    (signalFall before s).response = s.response := by
  unfold signalFall; split <;> rfl

@[simp] theorem signalFall_report (before : Nat) (s : State) :
    (signalFall before s).report = s.report := by
  unfold signalFall; split <;> rfl

@[simp] theorem signalFall_port (before : Nat) (s : State) :
    (signalFall before s).port = s.port := by
  unfold signalFall; split <;> rfl

@[simp] theorem signalFall_irq (before : Nat) (s : State) :
    (signalFall before s).irq = s.irq := by
  unfold signalFall; split <;> rfl

@[simp] theorem signalFall_bus (before : Nat) (s : State) :
    (signalFall before s).bus = s.bus := by
  unfold signalFall; split <;> rfl

@[simp] theorem signalFall_resetAsserted (before : Nat) (s : State) :
    (signalFall before s).resetAsserted = s.resetAsserted := by
  unfold signalFall; split <;> rfl

@[simp] theorem signalFall_periodDraws (before : Nat) (s : State) :
    (signalFall before s).periodDraws = s.periodDraws := by
  unfold signalFall; split <;> rfl

@[simp] theorem signalFall_pending (before : Nat) (s : State) :
    (signalFall before s).pending = s.pending := by
  unfold signalFall; split <;> rfl

/-- The signal makes a retry claim of a HELD engine, and does nothing else (R38, R162). -/
theorem signalFall_aring (before : Nat) (s : State) :
    (signalFall before s).aring =
      if occupancyOf s.table.entries < before ∧ s.aring.state = .held then
        { s.aring with retry := true }
      else s.aring := by
  unfold signalFall; split <;> rfl

/-! ### A command taken (R173) -/

theorem takeCommand_of_idle {c : Command} {owner : Words8 → State → State × Answer} {s : State}
    (h : s.port.buffer = none) : takeCommand c owner s = s := by
  simp [takeCommand, h]

theorem takeCommand_of_other {c : Command} {owner : Words8 → State → State × Answer} {s : State}
    {i : Issued} (h : s.port.buffer = some i) (hc : i.command ≠ c) :
    takeCommand c owner s = s := by
  simp [takeCommand, h, hc]

/-- The owner's effect and the posting of its answer (R173). -/
theorem takeCommand_of_issued {c : Command} {owner : Words8 → State → State × Answer} {s : State}
    {w : Words8} (h : s.port.buffer = some { command := c, words := w }) :
    takeCommand c owner s =
      { (owner w s).1 with port := (owner w s).1.port.post c.code (owner w s).2 } := by
  simp [takeCommand, h]

/-- A command is taken or changes nothing: a property that holds of the state and of what the owner and
the posting make of it holds after. -/
theorem takeCommand_induction {c : Command} {owner : Words8 → State → State × Answer}
    {P : State → Prop} {s : State} (same : P s)
    (taken : ∀ w, P { (owner w s).1 with port := (owner w s).1.port.post c.code (owner w s).2 }) :
    P (takeCommand c owner s) := by
  unfold takeCommand
  split
  · exact same
  · split
    · exact taken _
    · exact same

/-! ### Masks -/

theorem getLsbD_writeLevels (level m v : LineMask) (n : Nat) :
    (writeLevels level m v).getLsbD n = if m.getLsbD n then v.getLsbD n else level.getLsbD n := by
  by_cases hn : n < 16
  · rw [BitVec.getLsbD_eq_getElem hn, BitVec.getLsbD_eq_getElem hn, BitVec.getLsbD_eq_getElem hn,
      BitVec.getLsbD_eq_getElem hn]
    cases hm : m[n] <;> simp [writeLevels, hm]
  · simp [writeLevels, BitVec.getLsbD_of_ge _ _ (by omega : 16 ≤ n)]

theorem getLsbD_lineBit (n : Fin 16) (k : Nat) : (lineBit n).getLsbD k = decide (k = n.val) := by
  have h := n.isLt
  simp only [lineBit, BitVec.getLsbD_shiftLeft, BitVec.getLsbD_one]
  by_cases hk : k = n.val
  · subst hk; simp [h]
  · by_cases hl : k < n.val
    · simp [hk, hl]
    · have h0 : ¬ k - n.val = 0 := by omega
      simp [hk, h0]

theorem getLsbD_patternMask (l : LineUnit) (n : Fin 16) :
    l.patternMask.getLsbD n = l.gens[n].running := by
  simp [LineUnit.patternMask]

/-- Generator `n` after an operation on the generators of a mask. -/
theorem onGens_getElem (l : LineUnit) (m : LineMask) (f : Generator → Generator) (n : Fin 16) :
    (l.onGens m f).gens[n] = if m.getLsbD n then f l.gens[n] else l.gens[n] := by
  simp [LineUnit.onGens]

/-! ### Resets (R186, R190; log entry 10) -/

/-- A slot after a power-on reset: emptied, or as it was. -/
theorem slotAfterPowerOn_eq {α : Type} (slot : Option α) :
    slotAfterPowerOn slot = if Config.powerOnWithdraws then none else slot := by
  cases slot <;> simp [slotAfterPowerOn]

@[simp] theorem slotAfterPowerOn_none {α : Type} :
    slotAfterPowerOn (none : Option α) = none := rfl

/-- Whatever the free value is, what a slot holds after a power-on reset it held before. -/
theorem slotAfterPowerOn_some {α : Type} {slot : Option α} {q : α}
    (h : slotAfterPowerOn slot = some q) : slot = some q := by
  rw [slotAfterPowerOn_eq] at h
  split at h
  · cases h
  · exact h

/-- A completion that comes with no burst on the bus: all that it can do is to clear the abandoned mark of a
write whose slot is empty. -/
theorem discardEmptiedWrite_eq (s : State) :
    discardEmptiedWrite s = s ∨
      s.report.ring.abandoned = true ∧ s.bus.reportSlot = none
        ∧ discardEmptiedWrite s = discardWrite s := by
  unfold discardEmptiedWrite
  split
  · next h => exact Or.inr ⟨h.1, h.2, rfl⟩
  · exact Or.inl rfl

/-- The same of a fetch. -/
theorem discardEmptiedFetch_eq (s : State) :
    discardEmptiedFetch s = s ∨
      s.aring.ring.abandoned = true ∧ s.bus.admissionSlot = none
        ∧ discardEmptiedFetch s = discardFetch s := by
  unfold discardEmptiedFetch
  split
  · next h => exact Or.inr ⟨h.1, h.2, rfl⟩
  · exact Or.inl rfl

/-! ### The step and the TCLK period (R5, R7; log entry 29) -/

/-- All that a step's holding of a trim can change is the held trim and the count of the draws. -/
theorem holdTrim_eq (old : Time) (s : State) :
    ∃ held n, holdTrim old s =
      { s with timebase := { s.timebase with heldTrim := held }, periodDraws := n } := by
  unfold holdTrim
  split
  · exact ⟨_, _, rfl⟩
  · exact ⟨s.timebase.heldTrim, s.periodDraws, rfl⟩

/-- A trim that is held already stays held. -/
theorem holdTrim_of_held {old : Time} {s : State} {trim : Trim}
    (h : s.timebase.heldTrim = some trim) : (holdTrim old s).timebase.heldTrim = some trim := by
  unfold holdTrim
  split
  · simp [h]
  · exact h

/-- A step that saturates holds nothing (R3, R7). -/
theorem holdTrim_of_saturated {old : Time} {s : State} (h : s.timebase.saturated = true) :
    holdTrim old s = s := by
  simp [holdTrim, h]

@[simp] theorem adderTrim_of_none {t : Timebase} (h : t.heldTrim = none) :
    t.adderTrim = t.trimActive := by
  simp [Timebase.adderTrim, h]

/-! ### What a FIRED notice shows (R71, R76; log entry 11) -/

/-- The remaining a FIRED notice shows is the one after the decrease, or 0 at a final taking where the free
value says so. -/
theorem shownRemaining_eq (c : Course) :
    c.shownRemaining =
      if c.again.isNone && Config.overflowShowsZero then 0 else c.remaining := by
  unfold Course.shownRemaining
  cases c.again <;> cases Config.overflowShowsZero <;> by_cases h : c.remaining = 0 <;> simp [h]

/-! ### The window's writes by offset (R180, R181; log entry 4) -/

theorem writeOffset_of_mapped {offset : BitVec 10} {r : Reg} (hr : Reg.ofOffset offset = some r)
    (v : Word) (s : State) : writeOffset offset v s = writeRegister r v s := by
  simp [writeOffset, hr]

@[simp] theorem writeLanes_full (offset : BitVec 10) (v : Word) (s : State) :
    writeLanes offset 0xF v s = writeOffset offset v s := by
  simp [writeLanes]

/-! ### The window's reads (R182, R186) -/

theorem readOffset_of_asserted {s : State} (h : s.resetAsserted = true) (offset : BitVec 10) :
    s.readOffset offset = 0 := by
  simp [State.readOffset, h]

theorem readOffset_of_mapped {s : State} {offset : BitVec 10} {r : Reg}
    (h : s.resetAsserted = false) (hr : Reg.ofOffset offset = some r) :
    s.readOffset offset = s.regValue r := by
  simp [State.readOffset, h, hr]

theorem readOffset_of_unmapped {s : State} {offset : BitVec 10}
    (hr : Reg.ofOffset offset = none) : s.readOffset offset = 0 := by
  simp [State.readOffset, hr]

end Sys2Proof.Machine
end

