-- ==== Sys2Proof/Laws/Admission.lean ====
section
/-! SUPPORT. What a candidate that passes validation is, and what its admission does to the table (R25 to
R30). -/

namespace Sys2Proof.Machine

theorem isPulse_iff {a : Action} : a.isPulse = true ↔ ∃ w, a = .pulse w := by
  cases a <;> simp [Action.isPulse]

/-- The action of a kind is in range, is no TRAIL, and is a MARK exactly for the kind MARK (R18, R25). -/
theorem kindAction_some {k : Kind} {a b : Word} {act : Action} (h : k.action a b = some act) :
    act.inRange = true ∧ act ≠ .trail ∧ (act = .mark ↔ k = .mark) := by
  cases k <;> simp only [Kind.action] at h
  case pulse =>
    split at h
    · rename_i hr
      obtain rfl := Option.some.inj h
      have hle : a.toNat ≤ 2 ^ 24 - 1 := hr.2
      have hge : 1 ≤ a.toNat := hr.1
      have hne : a.setWidth 24 ≠ 0 := fun hz => by
        have h1 := congrArg BitVec.toNat hz
        rw [BitVec.toNat_setWidth, Nat.mod_eq_of_lt (by omega)] at h1
        change a.toNat = 0 at h1
        omega
      exact ⟨bne_iff_ne.mpr hne, by simp, by simp⟩
    · simp at h
  case patternLoad =>
    split at h
    · rename_i hr
      obtain rfl := Option.some.inj h
      have h2 : a.toNat ≤ 2 ^ 24 := hr.2.1
      have ha : (a.setWidth 25).toNat = a.toNat := by
        rw [BitVec.toNat_setWidth]
        exact Nat.mod_eq_of_lt (by omega)
      have hb : (b.setWidth 25).toNat = b.toNat := by
        rw [BitVec.toNat_setWidth]
        exact Nat.mod_eq_of_lt (by omega)
      refine ⟨?_, by simp, by simp⟩
      simp only [Action.inRange, Pair.inRange, ha, hb, Bool.and_eq_true, decide_eq_true_eq]
      exact ⟨⟨hr.1, hr.2.1⟩, hr.2.2⟩
    · simp at h
  case patternStop =>
    split at h
    · obtain rfl := Option.some.inj h
      simp [Action.inRange]
    · simp at h
  all_goals
    obtain rfl := Option.some.inj h
    simp [Action.inRange]

/-- Fields that pass checks 1 to 3 of R29 have an action in range that is no TRAIL, and a line set that
fits it. -/
theorem check_ok {f : RawFields} {g : CheckedFields} (h : f.check = .ok g) :
    g.action.inRange = true ∧ g.action ≠ .trail ∧ linesFit g.action g.lines = true := by
  unfold RawFields.check at h
  split at h
  · simp at h
  · rename_i k hk
    split at h
    · simp at h
    · rename_i hl
      split at h
      · simp at h
      · split at h
        · simp at h
        · rename_i act ha
          obtain rfl := Except.ok.inj h
          obtain ⟨h1, h2, h3⟩ := kindAction_some ha
          refine ⟨h1, h2, ?_⟩
          by_cases hm : k = .mark
          · simp [linesFit, hm, h3.mpr hm]
          · have hne : f.lines ≠ 0 := fun hz => hl ⟨hm, hz⟩
            have hna : act ≠ .mark := fun hz => hm (h3.mp hz)
            simp only [linesFit, if_neg hm, beq_eq_false_iff_ne.mpr hna, beq_eq_false_iff_ne.mpr hne,
              beq_self_eq_true]

/-- What an admitted candidate's entry is: checks 1 to 6 of R29 passed, and R30's fields. -/
theorem validate_ok {c : Candidate} {base : Time} {free : Nat} {serial : BitVec 32} {e : Entry}
    (h : c.validate base free serial = .ok e) :
    ∃ f due, c.fields.check = .ok f ∧ repeatFits f.action c.rep = true
      ∧ c.dueAt base = some due ∧ slotsNeeded f.action ≤ free ∧ e = c.entry f due serial := by
  unfold Candidate.validate at h
  split at h
  · simp at h
  · rename_i f hf
    split at h
    · rename_i hr
      split at h
      · simp at h
      · rename_i due hd
        split at h
        · rename_i hs
          exact ⟨f, due, hf, hr, hd, hs, (Except.ok.inj h).symm⟩
        · simp at h
    · simp at h

/-- The repeat an admitted entry holds fits it (R26). -/
theorem repeatOf_fits {a : Action} {rep : Option (BitVec 32 × BitVec 16)}
    (h : repeatFits a rep = true) {r : Repeat} (hr : repeatOf rep = some r) : r.fits a = true := by
  match rep with
  | none => simp [repeatOf] at hr
  | some (interval, count) =>
    obtain rfl := Option.some.inj hr
    by_cases hc : count = 0
    · subst hc
      simpa [Repeat.fits] using h
    · simp only [Repeat.fits, if_neg hc, h, Bool.true_and, Nat.le_refl, decide_true, Bool.and_true]
      exact bne_iff_ne.mpr hc

/-- The entry of an admitted candidate is well formed. -/
theorem entry_fits {c : Candidate} {f : CheckedFields} {due : Time} {serial : BitVec 32}
    (hf : c.fields.check = .ok f) (hr : repeatFits f.action c.rep = true) :
    (c.entry f due serial).fits = true := by
  obtain ⟨h1, h2, h3⟩ := check_ok hf
  simp only [Entry.fits, Candidate.entry, beq_self_eq_true, h1, h3, Bool.and_true, Bool.true_and]
  split
  · rfl
  · rename_i r hrep
    simp [Entry.isTrail, h2, repeatOf_fits hr hrep]

/-- The entry of a validated candidate is well formed, and there is room for it (R28, R29). -/
theorem validateNow_ok {c : Candidate} {s : State} {e : Entry} (h : validateNow c s = .ok e) :
    e.fits = true ∧ slotsNeeded e.action ≤ freeSlotsOf s.table.entries
      ∧ e.serial = s.table.serialNext := by
  obtain ⟨f, due, hf, hr, -, hs, rfl⟩ := validate_ok h
  exact ⟨entry_fits hf hr, hs, rfl⟩

/-- Fields that passed their checks name, in a template, the action they were checked as (R35, R121). -/
theorem action_ofChecked {r : RawFields} {f : CheckedFields} (h : r.check = .ok f) :
    (TemplateFields.ofChecked r f).action = .ok f.action := by
  unfold RawFields.check at h
  cases hk : Kind.ofCode r.kindCode with
  | none => simp [hk] at h
  | some k =>
    simp only [hk] at h
    split at h
    · simp at h
    · split at h
      · simp at h
      · split at h
        · simp at h
        · rename_i a ha
          obtain rfl := Except.ok.inj h
          have : k.action (if k.usesA then r.paramA else 0) (if k.usesB then r.paramB else 0)
              = some a := by
            cases k <;> simpa [Kind.action, Kind.usesA, Kind.usesB] using ha
          simp only [TemplateFields.action, TemplateFields.ofChecked, hk, Option.any_some, this]

/-- A loaded template carries well-formed fields (R121). -/
theorem loaded_fits {w : Words8} {f : CheckedFields} (h : (RawFields.ofWords w).check = .ok f) :
    (Template.loaded w f).fields.fits = true := by
  obtain ⟨h1, h2, h3⟩ := check_ok h
  have hl : (TemplateFields.ofChecked (RawFields.ofWords w) f).lines = f.lines := rfl
  simp [TemplateFields.fits, Template.loaded, action_ofChecked h, hl, h1, h2, h3]

/-- The entry of an admitted response claim with well-formed fields is well formed, and there is room
for it (R125, R126). -/
theorem responseValidate_ok {c : ResponseClaim} {free : Nat} {serial : BitVec 32} {e : Entry}
    (hc : c.fields.fits = true) (h : c.validate free serial = .ok e) :
    e.fits = true ∧ slotsNeeded e.action ≤ free := by
  unfold ResponseClaim.validate at h
  unfold TemplateFields.fits at hc
  split at h
  · simp at h
  · rename_i a ha
    split at h
    · simp at h
    · split at h
      · rename_i hs
        obtain rfl := Except.ok.inj h
        simp only [ha, Bool.and_eq_true] at hc
        exact ⟨by simp [Entry.fits, hc.1.1, hc.1.2], hs⟩
      · simp at h

/-- Admission adds the entry, keeps due order, and stays within 256 slots (R30, R39). -/
theorem tableInv_admitEntry {e : Entry} {s : State} (h : TableInv s) (hf : e.fits = true)
    (hs : slotsNeeded e.action ≤ freeSlotsOf s.table.entries) : TableInv (admitEntry e s) := by
  obtain ⟨h1, h2, h3, h4, h5⟩ := h
  refine ⟨pairwise_insertEntry h1, ?_, ?_, h4, h5⟩
  · intro x hx
    rcases mem_insertEntry.mp hx with rfl | hx
    · exact hf
    · exact h2 x hx
  · have hr : e.reserved = e.action.isPulse := by
      simp only [Entry.fits, Bool.and_eq_true, beq_iff_eq] at hf
      exact hf.1.1.1
    have h0 : occupancyOf (insertEntry e s.table.entries) ≤ Config.tableSlots := by
      rw [occupancyOf_insertEntry, hr]
      simp only [slotsNeeded, freeSlotsOf] at hs
      split at hs <;> simp_all <;> omega
    exact h0

end Sys2Proof.Machine
end

