-- ==== Sys2Proof/Tests/Slice0.lean ====
section
/-! SUPPORT. The model's own tests: the checks of WellFormed, one step per command on small states, and for
every statement with hypotheses a state and operands that meet them (the theorems test_meets_…), each clause
at a boundary of its range. -/

namespace Sys2Proof.Tests

open Sys2Proof.Machine

set_option maxRecDepth 8000

/-! ### Small states -/

/-- The state after a command. -/
def after (c : Instr) (s : State) : State :=
  match exec c s with
  | .next t => t
  | .fault _ => s
  | .refused _ => s

/-- The state after several commands. -/
def run (cs : List Instr) (s : State) : State := cs.foldl (fun s c => after c s) s

/-- Eight words, the first six given. -/
def words (a b c d e f g : Word) : Words8 := #v[a, b, c, d, e, f, g, 0]

/-- The part with a command in its buffer. -/
def issued (c : Command) (w : Words8) (s : State) : State :=
  { s with port := { s.port with buffer := some { command := c, words := w } } }

/-- The part at the integer `v`. -/
def at_ (v : Nat) (s : State) : State :=
  { s with timebase := { s.timebase with integer := BitVec.ofNat 56 v } }

/-- The part with other entries. -/
def table (es : List Entry) (s : State) : State := { s with table := { s.table with entries := es } }

/-- The part with the sequencer in a state. -/
def seq (x : SeqState) (s : State) : State := { s with seq := { s.seq with state := x } }

/-- The part with another line unit. -/
def lines (l : LineUnit) (s : State) : State := { s with lines := l }

/-- An entry with tag 7, serial 3 and report EACH. -/
def entry (a : Action) (m : LineMask) (due : Nat) : Entry :=
  { action := a, lines := m, due := BitVec.ofNat 56 due, tag := 7, late := .fireLate, report := .each
    rep := none, serial := 3, reserved := a.isPulse }

/-- The entry with a repeat. -/
def repeating (i : BitVec 32) (n : BitVec 16) (e : Entry) : Entry :=
  { e with rep := repeatOf (some (i, n)) }

/-- A running generator on line 2: period 1000, high time 250, started at 100. -/
def running : Generator :=
  { running := true, active := ⟨1000, 250⟩, shadow := ⟨400, 100⟩, start := 100, nextStart := 1100
    reloadPending := false, pendingStop := none }

/-- The line unit with that generator. -/
def patternLines : LineUnit := { LineUnit.reset with gens := LineUnit.reset.gens.set 2 running }

/-- A line unit with the fault latch set. -/
def latched : LineUnit := { LineUnit.reset with faultLatch := true }

/-- A notice that says little. -/
def note : Notice := { time := 1, body := .tableEmpty }

/-- The part with a full notice queue. -/
def fullQueue (s : State) : State :=
  { s with report := { s.report with notices := List.replicate 32 note } }

/-- The part with the bus-master enable set. -/
def master (s : State) : State := { s with bus := { s.bus with masterEnable := true } }

/-- The report unit with a ring of 16 that runs. -/
def reportOn : ReportUnit :=
  { ReportUnit.reset with state := .running, ring := { Ring.reset with enable := true } }

/-- A part whose report writer may start with a notice at the head. -/
def reporting : State := { master State.reset with report := { reportOn with notices := [note] } }

/-- That part with the write on the bus. -/
def writing : State := run [.reportWriteStart, .burstGrant] reporting

/-- A part whose admission ring may fetch. -/
def admitting : State :=
  { master State.reset with aring :=
    { AdmissionRing.reset with state := .running, ring := { Ring.reset with enable := true, prod := 2 } } }

/-- That part with the fetch on the bus. -/
def fetching : State := run [.fetchStart, .burstGrant] admitting

/-- A SET on OUT0 due at 50, tag 7. -/
def setWords : Words8 := words 0x00010001 7 50 0 0 0 0

/-- That descriptor waiting for its claim. -/
def claiming : State := after (.fetchDone setWords) fetching

/-- The table with 256 entries. -/
def fullTable (s : State) : State := table (List.replicate 256 (entry .set 1 99)) s

/-- A held descriptor: no slot was free at its claim. -/
def held : State := after .descriptorClaim (fullTable claiming)

/-- An input line enabled for both edges, at level 0, holdoff 10, last accepted at 100. -/
def inputLine : InputLine :=
  { InputLine.reset with sync := some false, enable := true, select := .both, holdoff := 10
                         lastAccepted := some 100 }

/-- Fields of a template: a SET on OUT1. -/
def loadedFields : TemplateFields :=
  { kind := some .set, lines := 2, tag := 9, late := .fireLate, report := .none, paramA := 0, paramB := 0 }

/-- A template with those fields, 20 after the edge. -/
def template (x : TemplateState) (m : ArmMode) : Template :=
  { state := x, fields := loadedFields, delay := 20, mode := m }

/-- The part with input line 3 in use and template 3 armed. -/
def capturing (m : ArmMode) : State :=
  { State.reset with
    capture := { CaptureUnit.reset with inputs := CaptureUnit.reset.inputs.set 3 inputLine }
    response := { ResponseUnit.reset with
      templates := ResponseUnit.reset.templates.set 3
        (template .armed m) } }

/-- The part with a full capture log. -/
def fullLog (s : State) : State :=
  { s with capture := { s.capture with
      log := List.replicate 64 { line := 0, edge := .rise, stamp := 1, seq := 1, supp := 0 } } }

/-! ### WellFormed: one ill-formed command for each check -/

theorem test_wf_softReset : (Instr.softReset 2).wf = true ∧ (Instr.softReset 1).wf = false := by decide

theorem test_wf_busMasterEnableWrite :
    (Instr.busMasterEnableWrite 1).wf = true ∧ (Instr.busMasterEnableWrite 2).wf = false := by decide

theorem test_wf_narrowWrite :
    (Instr.narrowWrite 4 3 0).wf = true ∧ (Instr.narrowWrite 4 15 0).wf = false := by decide

theorem test_wf_registerWrite :
    (Instr.registerWrite 0x020 0).wf = true ∧ (Instr.registerWrite 0x3FC 0).wf = true
      ∧ (Instr.registerWrite 0x004 0).wf = false := by decide

theorem test_wf_commandIssue :
    (Instr.commandIssue 0x01).wf = true ∧ (Instr.commandIssue 0x00).wf = false := by decide

theorem test_wf_badCommand :
    (Instr.badCommand 0xFF).wf = true ∧ (Instr.badCommand 0x01).wf = false := by decide

theorem test_wf_reportEnable :
    (Instr.reportEnable 1).wf = true ∧ (Instr.reportEnable 2).wf = false := by decide

theorem test_wf_reportDisable :
    (Instr.reportDisable 2).wf = true ∧ (Instr.reportDisable 1).wf = false := by decide

theorem test_wf_aringEnable :
    (Instr.aringEnable 1).wf = true ∧ (Instr.aringEnable 0).wf = false := by decide

theorem test_wf_aringDisable :
    (Instr.aringDisable 0).wf = true ∧ (Instr.aringDisable 1).wf = false := by decide

/-! ### The step and the resets -/

/-- No row has bits: no word spells a command. -/
theorem test_no_word_spells_a_command :
    decodeTableWord 32 1 = none ∧ State.reset.withFetchWord 32 1 = State.reset := ⟨rfl, rfl⟩

theorem test_step_takes_the_front :
    step { State.reset with pending := [.timebaseAdvance, .taking] }
      = exec .timebaseAdvance { State.reset with pending := [.taking] } := rfl

theorem test_meets_StepTakesFrontCommand : State.reset.pending = [] := by decide

theorem test_powerOnReset :
    let t := after .powerOnReset (at_ 900 (lines patternLines writing))
    t.timebase.integer = 0 ∧ t.resetAsserted = true ∧ t.report.ring.abandoned = true
      ∧ t.bus.onBus = some .report ∧ t.bus.masterEnable = false := by decide

theorem test_resetNDeassertion :
    (run [.powerOnReset, .timebaseAdvance, .resetNDeassertion, .timebaseAdvance] State.reset).timebase.integer
      = 1 := by decide

theorem test_softReset :
    let t := after (.softReset 3) (at_ 900 (lines patternLines (fullQueue State.reset)))
    t.timebase.integer = 900 ∧ t.lines = LineUnit.reset ∧ t.report.notices = []
      ∧ t.bus.masterEnable = true := by decide

theorem test_busMasterEnableWrite :
    (after (.busMasterEnableWrite 0) reporting).report.state = .disabled
      ∧ (after (.busMasterEnableWrite 0) writing).report.ring.disablePending = true := by decide

/-- The four bits of CONTROL, a part in reset, and a row that goes on in it and one that does not. -/
theorem test_meets_ResetsRestoreTheirValues :
    Awake held ∧ AringInv held ∧ (2#32).getLsbD 1 = true ∧ (1#32).getLsbD 1 = false
      ∧ (after .powerOnReset held).resetAsserted = true :=
  by decide

theorem test_goesOnInReset : goesOnInReset .burstGrant ∧ ¬ goesOnInReset (.narrowWrite 0x070 3 1) :=
  ⟨trivial, id⟩

/-- A request that waits while RESET_N becomes asserted: whatever the free value, the write is abandoned, and
a completion that comes with no burst on the bus clears the mark exactly where the slot was emptied. -/
theorem test_powerOnReset_waiting :
    let t := after .powerOnReset (after .reportWriteStart reporting)
    t.report.ring.abandoned = true ∧ t.bus.reportSlot.isSome = !Config.powerOnWithdraws := by
  refine ⟨rfl, ?_⟩
  change (if Config.powerOnWithdraws then none else some (_ : WriteRequest)).isSome = _
  cases Config.powerOnWithdraws <;> rfl

/-- An abandoned write and an abandoned fetch whose slots are empty, with no burst on the bus. -/
def emptied : State :=
  { State.reset with
    report := { ReportUnit.reset with ring := { Ring.reset with abandoned := true } }
    aring := { AdmissionRing.reset with ring := { Ring.reset with abandoned := true } } }

theorem test_emptied_completions :
    (after .reportWriteError emptied).report = ReportUnit.reset
      ∧ (after (.fetchDone setWords) emptied).aring = AdmissionRing.reset
      ∧ (after .reportWriteDone (after .reportWriteStart reporting)) = after .reportWriteStart reporting := by
  decide

/-! ### Invariants: a state that meets each, and takes a step -/

/-- A busy part with a command waiting. -/
def busy : State := { at_ 300 (lines patternLines held) with pending := [.taking] }

theorem test_meets_TableInvariantIsKept : TableInv busy := by
  refine ⟨?_, ?_, ?_, ?_, ?_⟩ <;> decide

theorem test_meets_GeneratorInvariantIsKept : GeneratorInv busy := by decide

theorem test_meets_QueueInvariantIsKept : QueueInv (fullQueue busy) := by decide

theorem test_meets_RingInvariantIsKept : RingInv busy := by decide

theorem test_meets_ReportInvariantIsKept : ReportInv { writing with pending := [.reportWriteDone] } := by
  decide

theorem test_meets_AringInvariantIsKept : AringInv busy := by decide

/-- A CONTINUOUS template that is DISARMED and takes a RESPONSE_ARM. -/
def arming : State :=
  issued .responseArm (words 3 0 0 0 0 0 0)
    { capturing .continuous with
      response := { ResponseUnit.reset with
        templates := ResponseUnit.reset.templates.set 3 (template .disarmed .continuous) }
      pending := [.responseArm] }

theorem test_meets_ResponseInvariantIsKept :
    ResponseInv (capturing .oneShot) ∧ ResponseInv arming ∧ arming.response.templates[3].state ≠ .armed
      ∧ Issues arming .responseArm (words 3 0 0 0 0 0 0) ∧ (words 3 0 0 0 0 0 0)[0].toNat = (3 : Fin 8).val
      ∧ (after .responseArm arming).response.templates[3].state = .armed
      ∧ (after .responseArm arming).port.result = .ok := by decide

theorem test_meets_SaturationAndResetInvariantsAreKept :
    TimeInv (at_ (2 ^ 56 - 1) State.reset)
      ∧ (at_ (2 ^ 56 - 1) State.reset).timebase.saturated = true
      ∧ ResetInv (after .powerOnReset busy) ∧ (after .powerOnReset busy).resetAsserted = true := by
  decide

/-- Each of these states is stepped to a next state. -/
theorem test_meets_invariant_steps :
    (∃ t, step busy = .next t) ∧ (∃ t, step (fullQueue busy) = .next t)
      ∧ (∃ t, step { writing with pending := [.reportWriteDone] } = .next t)
      ∧ (∃ t, step (capturing .oneShot) = .next t)
      ∧ (∃ t, step (at_ (2 ^ 56 - 1) State.reset) = .next t)
      ∧ ∃ t, step (after .powerOnReset busy) = .next t :=
  ⟨⟨_, rfl⟩, ⟨_, rfl⟩, ⟨_, rfl⟩, ⟨_, rfl⟩, ⟨_, rfl⟩, ⟨_, rfl⟩⟩

/-! ### Timebase -/

/-- A timebase with a fraction and an active trim. -/
def adding (v : Nat) (f : BitVec 24) (trim : Trim) : State :=
  { State.reset with timebase :=
    { Timebase.reset with integer := BitVec.ofNat 56 v, fraction := f, trimActive := trim, trimPending := 5 } }

/-- Table 1-1: the integer increases by 0, 1 or 2. -/
theorem test_timebaseAdvance :
    (after .timebaseAdvance (adding 7 0 (-1))).timebase.integer = 7
      ∧ (after .timebaseAdvance (adding 7 0 0)).timebase.integer = 8
      ∧ (after .timebaseAdvance (adding 7 0xFFFFFF 1)).timebase.integer = 9 := by decide

/-- An increase of 2 over the multiple of 2^20: the trim is applied at the integer one above it. -/
theorem test_timebaseAdvance_crosses :
    let t := after .timebaseAdvance (adding (2 ^ 20 - 1) 0xFFFFFF 1)
    t.timebase.trimActive = 5 ∧ t.report.notices = [{ time := 2 ^ 20 + 1, body := .trimApplied 5 }] := by
  decide

/-- The sums at which the increase changes: 2^24-1, 2^24, 2^25-1 and 2^25; the highest integers below
saturation; a crossing with a trim that differs, and with none. -/
theorem test_meets_AdvanceAddsTickAndTrim :
    Awake (adding 7 0 (-1))
      ∧ (adding 7 0 (-1)).timebase.adderSum = 2 ^ 24 - 1 ∧ (adding 7 0 0).timebase.adderSum = 2 ^ 24
      ∧ (adding 7 0xFFFFFF 0).timebase.adderSum = 2 ^ 25 - 1
      ∧ (adding 7 0xFFFFFF 1).timebase.adderSum = 2 ^ 25
      ∧ 2 ^ 56 - 3 + ((adding (2 ^ 56 - 3) 0 0).timebase.adderSum / 2 ^ 24).toNat < 2 ^ 56 - 1
      ∧ (2 ^ 20 - 1 + 1) / 2 ^ 20 ≠ (2 ^ 20 - 1) / 2 ^ 20
      ∧ (adding 7 0 0).timebase.trimPending ≠ (adding 7 0 0).timebase.trimActive := by decide

theorem test_meets_AdvanceStopsAtSaturation :
    (adding (2 ^ 56 - 1) 0 0).timebase.integer.toNat = 2 ^ 56 - 1
      ∧ 2 ^ 56 - 1 ≤ 2 ^ 56 - 2 + ((adding (2 ^ 56 - 2) 0 0).timebase.adderSum / 2 ^ 24).toNat
      ∧ 2 ^ 56 - 1 ≤ 2 ^ 56 - 3 + ((adding (2 ^ 56 - 3) 0xFFFFFF 1).timebase.adderSum / 2 ^ 24).toNat := by
  decide

theorem test_timeStep :
    let t := after .timeStep (issued .timeStep (words 900 0 0 0 0 0 0) (at_ 300 (lines patternLines State.reset)))
    t.timebase.integer = 1200 ∧ t.port.result = .ok ∧ t.port.value0 = 1200
      ∧ t.lines.gens[2].nextStart = 2100 := by decide

/-- Steps of 0, 1, 2^40-1 and 2^40; a step to 2^56-1 and one beyond it. -/
theorem test_meets_TimeStepMovesTheInteger :
    Issues (issued .timeStep (words 0 0 0 0 0 0 0) State.reset) .timeStep (words 0 0 0 0 0 0 0)
      ∧ argument64 (words 0 0 0 0 0 0 0) = 0 ∧ argument64 (words 1 0 0 0 0 0 0) = 1
      ∧ argument64 (words 0xFFFFFFFF 0xFF 0 0 0 0 0) = 2 ^ 40 - 1
      ∧ argument64 (words 0 0x100 0 0 0 0 0) = 2 ^ 40
      ∧ (at_ (2 ^ 56 - 2) State.reset).timebase.integer.toNat + 1 ≤ 2 ^ 56 - 1
      ∧ 2 ^ 56 - 1 < (at_ (2 ^ 56 - 2) State.reset).timebase.integer.toNat + 2
      ∧ running.running = true ∧ running.nextStart < 1101 ∧ 1100 ≤ running.nextStart
      ∧ 2 ≤ running.active.period.toNat := by decide

/-- A step over the multiple of 2^20 with a trim pending, in a TCLK period that already holds a trim of -1. -/
def stepping : State :=
  let s := issued .timeStep (words 2 0 0 0 0 0 0) (adding (2 ^ 20 - 1) 0 0)
  { s with timebase := { s.timebase with heldTrim := some (-1) } }

/-- A step that crosses to 2^56-1 holds no trim, not even one held before it, so the first advance after a
TIME_SET adds the trim that the step made active. -/
theorem test_saturating_step_holds_no_trim :
    let s := issued .timeStep (words (2 ^ 20) 0 0 0 0 0 0) (adding (2 ^ 56 - 1 - 2 ^ 20) 0 0)
    let t := after .timeStep { s with timebase := { s.timebase with heldTrim := some (-1) } }
    let u := after .timebaseAdvance (after .timeSet (issued .timeSet (words 7 0 0 0 0 0 0) t))
    t.timebase.integer = BitVec.allOnes 56 ∧ t.timebase.trimActive = 5 ∧ t.timebase.heldTrim = none
      ∧ t.periodDraws = 0 ∧ u.timebase.integer = 8 ∧ u.timebase.fraction = 5 := by decide

/-- Both orders of a step and an advance: the trim added is the same, and so is what they leave. -/
theorem test_meets_step_and_advance :
    let t := after .timeStep stepping
    let u := after .timebaseAdvance t
    let b := after .timeStep (after .timebaseAdvance stepping)
    Issues stepping .timeStep (words 2 0 0 0 0 0 0) ∧ argument64 (words 2 0 0 0 0 0 0) = 2
      ∧ stepping.timebase.integer.toNat + 2 + 2 < 2 ^ 56 - 1
      ∧ t.timebase.heldTrim = some (-1) ∧ t.timebase.trimActive = 5 ∧ t.periodDraws = 1
      ∧ t.timebase.adderTrim = stepping.timebase.adderTrim
      ∧ u.timebase = { b.timebase with heldTrim := none } ∧ u.timebase.integer = 2 ^ 20 + 1 := by
  decide

theorem test_timeSet :
    let t := after .timeSet (issued .timeSet (words 5 1 0 0 0 0 0) (at_ 900 State.reset))
    t.timebase.integer = 2 ^ 32 + 5 ∧ t.timebase.fraction = 0 ∧ t.port.value1 = 1 := by decide

/-- The values 2^56-1 and 2^56; a running sequencer; a TRAIL entry; a running generator; none of these,
at an integer that is saturated and at one that is not. -/
theorem test_meets_TimeSetPlacesTheInteger :
    Issues (issued .timeSet setWords State.reset) .timeSet setWords
      ∧ argument64 (words 0xFFFFFFFF 0xFFFFFF 0 0 0 0 0) = 2 ^ 56 - 1
      ∧ argument64 (words 0 0x1000000 0 0 0 0 0) = 2 ^ 56
      ∧ (seq .running State.reset).seq.state ≠ .stopped
      ∧ (∃ e ∈ (table [entry .trail 1 9] State.reset).table.entries, e.action = .trail)
      ∧ (∃ n : Fin 16, (lines patternLines State.reset).lines.gens[n].running = true)
      ∧ State.reset.seq.state = .stopped ∧ ¬ (∃ e ∈ State.reset.table.entries, e.action = .trail)
      ∧ ¬ (∃ n : Fin 16, State.reset.lines.gens[n].running = true)
      ∧ (at_ (2 ^ 56 - 1) State.reset).timebase.integer.toNat = 2 ^ 56 - 1 := by
  refine ⟨?_, ?_, ?_, ?_, ⟨_, List.mem_singleton.2 rfl, rfl⟩, ⟨2, rfl⟩, ?_, ?_, ?_, ?_⟩ <;> decide

theorem test_trimSet :
    let t := after .trimSet (issued .trimSet (words 0xFFFF8000 0 0 0 0 0 0) State.reset)
    t.timebase.trimPending = 0x8000 ∧ t.timebase.trimActive = 0 ∧ t.port.value1 = 0xFFFF8000 := by decide

/-- The trims -32769, -32768, 32767 and 32768. -/
theorem test_meets_TrimSetStoresThePendingTrim :
    Issues (issued .trimSet setWords State.reset) .trimSet setWords
      ∧ (0xFFFF7FFF#32).toInt = -32769 ∧ (0xFFFF8000#32).toInt = -32768
      ∧ (0x7FFF#32).toInt = 32767 ∧ (0x8000#32).toInt = 32768 := by decide

theorem test_meets_RunningTimeNeverFalls :
    (seq .running State.reset).seq.state ≠ .stopped ∧ (seq .single State.reset).seq.state ≠ .stopped := by
  decide

theorem test_timeLoRead :
    let t := after .timeLoRead (at_ (5 * 2 ^ 32 + 6) State.reset)
    t.bus.readData = 6 ∧ t.readOffset 0x064 = 5 := by decide

theorem test_headDueLoRead :
    let t := after .headDueLoRead (table [entry .set 1 (3 * 2 ^ 32 + 4)] State.reset)
    t.bus.readData = 4 ∧ t.readOffset 0x088 = 3
      ∧ (after .headDueLoRead State.reset).readOffset 0x088 = 0xFFFFFF := by decide

/-- An empty table with the due 2^56-1, a table with a head, and a part in reset. -/
theorem test_meets_LowWordReadsCaptureTheHold :
    Awake State.reset ∧ State.reset.table.entries = []
      ∧ (table [entry .set 1 9] State.reset).table.entries = entry .set 1 9 :: []
      ∧ (entry .set 1 9).due = 9
      ∧ (after .powerOnReset State.reset).resetAsserted = true := by decide

/-! ### The action table -/

theorem test_admit :
    let t := after .admitCandidate (issued .admitCandidate setWords State.reset)
    t.table.entries.map (·.due) = [50] ∧ t.table.serialNext = 1 ∧ t.port.result = .ok
      ∧ t.port.value1 = 50 := by decide

/-- A report encoding of 3 is BAD_PARAM (R24). -/
theorem test_admit_bad_report :
    (after .admitCandidate (issued .admitCandidate (words 0x0C010001 7 50 0 0 0 0) State.reset)).port.result = .badParam := by
  decide

/-- The reason a candidate is refused for, if any. -/
def reason (w : Words8) (base : Time) (free : Nat) : Option ResultCode :=
  match (Candidate.ofWords w).validate base free 0 with
  | .ok _ => none
  | .error r => some r

/-- Table 2-2: each check refuses, and the first failed one decides. -/
theorem test_first_failed_check :
    reason (words 0x00000000 0 0 0 0 0 0) 0 0 = some .badKind
      ∧ reason (words 0x00010000 0 0 0 0 0 0) 0 0 = some .noLines
      ∧ reason (words 0x00040001 0 0 0 0 0 0) 0 0 = some .badParam
      ∧ reason (words 0x10040001 0 0 0 5 0 5) 0 0 = some .badRepeat
      ∧ reason (words 0x01010001 0 1 0 0 0 0) (BitVec.allOnes 56) 0 = some .badTime
      ∧ reason (words 0x00040001 0 0 0 5 0 0) 0 1 = some .tableFull
      ∧ reason (words 0x00040001 0 0 0 5 0 0) 0 2 = none := by decide

/-- The kinds 0, 1, 8 and 9; a MARK without lines; the report encoding 3; the bounds of a width. -/
theorem test_meets_FirstFailedCheckDecides :
    kindNumber (words 0x00000001 0 0 0 0 0 0) = 0 ∧ kindNumber (words 0x00010001 0 0 0 0 0 0) = 1
      ∧ kindNumber (words 0x00080000 0 0 0 0 0 0) = 8 ∧ kindNumber (words 0x00090001 0 0 0 0 0 0) = 9
      ∧ candidateLines (words 0x00080000 0 0 0 0 0 0) = 0
      ∧ BadParameter (words 0x0C010001 0 0 0 0 0 0)
      ∧ BadParameter (words 0x00040001 0 0 0 0x1000000 0 0)
      ∧ ¬ BadParameter (words 0x00040001 0 0 0 0xFFFFFF 0 0) := by decide

/-- A period, a high time, a stop mode and a final level at their bounds. -/
theorem test_meets_FirstFailedCheckDecides_pairs :
    BadParameter (words 0x00050001 0 0 0 0x1000001 0 0)
      ∧ ¬ BadParameter (words 0x00050001 0 0 0 0x1000000 0x1000000 0)
      ∧ BadParameter (words 0x00050001 0 0 0 2 3 0) ∧ ¬ BadParameter (words 0x00050001 0 0 0 2 2 0)
      ∧ BadParameter (words 0x00070001 0 0 0 2 0 0) ∧ ¬ BadParameter (words 0x00070001 0 0 0 1 1 0) := by
  refine ⟨?_, ?_, ?_, ?_, ?_, ?_⟩ <;> decide

/-- A repeat at its bounds, a due at 2^56-1 and one above it, and the slots 1 and 2. -/
theorem test_meets_FirstFailedCheckDecides_rest :
    BadRepeat (words 0x10010001 0 0 0 0 0 0) ∧ ¬ BadRepeat (words 0x10010001 0 0 0 0 0 1)
      ∧ BadRepeat (words 0x10040001 0 0 0 5 0 5) ∧ ¬ BadRepeat (words 0x10040001 0 0 0 5 0 6)
      ∧ BadTime (words 0x01010001 0 1 0 0 0 0) (BitVec.allOnes 56)
      ∧ ¬ BadTime (words 0x01010001 0 0 0 0 0 0) (BitVec.allOnes 56)
      ∧ slotsFor (words 0x00040001 0 0 0 5 0 0) = 2 ∧ slotsFor setWords = 1 := by decide

/-- A refused ADMIT and an admitted one. -/
theorem test_meets_AdmitPlacesOrRefuses :
    Issues (issued .admitCandidate setWords State.reset) .admitCandidate setWords
      ∧ reason setWords 0 256 = none ∧ reason setWords 0 0 = some .tableFull := by decide

theorem test_meets_InsertionIsByDueThenOrder :
    [entry .set 1 5, entry .set 2 5, entry .set 3 9].Pairwise (fun a b => a.due.toNat ≤ b.due.toNat) := by
  decide

/-- Equal dues stand in the order of admission. -/
theorem test_insertion_order :
    (insertEntry (entry .set 9 5) [entry .set 1 5, entry .set 2 6]).map (·.lines) = [1, 9, 2] := by decide

/-- A TRAIL, a PULSE and a SET of tag 7. -/
def three : State := table [entry .trail 1 5, entry (.pulse 4) 3 6, entry .set 4 9] State.reset

theorem test_cancelTag :
    let t := after .cancelTag (issued .cancelTag (words 7 0 0 0 0 0 0) three)
    t.table.entries = [entry .trail 1 5] ∧ t.port.value0 = 2 ∧ t.port.value1 = 1 := by decide

theorem test_cancelLines :
    let t := after .cancelLines (issued .cancelLines (words 5 0 0 0 0 0 0) three)
    t.table.entries = [entry .trail 1 5, entry (.pulse 4) 2 6] ∧ t.port.value0 = 1 ∧ t.port.value1 = 1 := by
  decide

theorem test_flush :
    let t := after .flush (issued .flush setWords { three with aring := held.aring })
    t.table.entries = [entry .trail 1 5] ∧ t.port.value0 = 2 ∧ t.aring.retry = true := by decide

theorem test_queryTag :
    let t := after .queryTag (issued .queryTag (words 7 0 0 0 0 0 0) three)
    t.port.value0 = 3 ∧ t.port.value1 = 5
      ∧ (after .queryTag (issued .queryTag (words 8 0 0 0 0 0 0) three)).port.value1 = 0xFFFFFFFF := by decide

/-- A tag no entry has, and one that three entries have. -/
theorem test_meets_TagCommandsActOnTheTable :
    Issues (issued .cancelTag setWords three) .cancelTag setWords
      ∧ Issues (issued .flush setWords three) .flush setWords
      ∧ Issues (issued .queryTag setWords three) .queryTag setWords
      ∧ three.table.entries.filter (fun e => e.tag == 8) = []
      ∧ three.table.entries.filter (fun e => e.tag == 7) ≠ [] := by decide

/-- Masks of no line, of the lowest line and of all lines. -/
theorem test_meets_CancelLinesNarrowsOrRemoves :
    Issues (issued .cancelLines setWords three) .cancelLines setWords
      ∧ (0xFFFF0000#32).extractLsb' 0 16 = 0#16 ∧ (1#32).extractLsb' 0 16 ≠ 0#16
      ∧ (0xFFFF#32).extractLsb' 0 16 ≠ 0#16 := by decide

theorem test_faultClaim :
    let s := lines { LineUnit.reset with faultClaims := 1 } three
    (after .faultClaim s).table.entries.map (·.action) = [.pulse 4, .set]
      ∧ (after .faultClaim s).lines.faultClaims = 0 := by decide

/-! ### The sequencer -/

theorem test_seqRun :
    (after .seqRun (issued .seqRun setWords State.reset)).seq.state = .running
      ∧ (after .seqRun (issued .seqRun setWords (lines latched State.reset))).port.result = .faultActive := by
  decide

theorem test_seqSingle :
    (after .seqSingle (issued .seqSingle setWords State.reset)).seq.state = .single
      ∧ (after .seqSingle (issued .seqSingle setWords (seq .running State.reset))).port.result = .state := by
  decide

theorem test_seqStop :
    let t := after .seqStop (issued .seqStop setWords (seq .running State.reset))
    t.seq.state = .stopped ∧ t.seq.stopCause = .command ∧ t.irq.isSet .seqStop = true
      ∧ t.report.notices = [{ time := 0, body := .seqStopped .command }] := by decide

theorem test_meets_SequencerCommandsChangeItsState :
    Issues (issued .seqRun setWords State.reset) .seqRun setWords
      ∧ Issues (issued .seqSingle setWords State.reset) .seqSingle setWords
      ∧ Issues (issued .seqStop setWords State.reset) .seqStop setWords
      ∧ (seq .single State.reset).seq.state ≠ .stopped
      ∧ State.reset.seq.state = .stopped ∧ State.reset.lines.faultLatch = false
      ∧ (lines latched State.reset).lines.faultLatch = true := by decide

theorem test_seqFaultEvent :
    let t := after .seqFaultEvent (seq .running (lines { latched with faultEvents := 1 } State.reset))
    t.seq.stopCause = .fault ∧ t.lines.faultEvents = 0 ∧ t.report.notices.length = 1 := by decide

theorem test_meets_FaultReachesSequencerAndTable :
    Awake three ∧ 0 < ({ latched with faultEvents := 1 } : LineUnit).faultEvents
      ∧ three.seq.state = .stopped ∧ (seq .running three).seq.state ≠ .stopped
      ∧ 0 < ({ latched with faultClaims := 1 } : LineUnit).faultClaims := by decide

/-- A head due one later than the integer, and a TRAIL due one later in STOPPED. -/
theorem test_meets_NothingIsTakenBeforeItsDue :
    (at_ 4 three).timebase.integer.toNat < (entry .trail 1 5).due.toNat
      ∧ (after .taking (at_ 4 (seq .running three))).table = three.table
      ∧ (after .taking (at_ 4 three)).table = three.table
      ∧ (after .taking (at_ 5 three)).table ≠ three.table := by decide

/-- Table 4-5: an unlimited entry, and a counted one with 1 and 5 takings left. -/
theorem test_meets_RepeatCourseFollowsTheGrid :
    (entry .set 1 5).rep = none
      ∧ (repeating 10 0 (entry .set 1 5)).rep = some ⟨10, 0, none⟩
      ∧ (repeating 10 1 (entry .set 1 5)).rep = some ⟨10, 1, some 1⟩
      ∧ ((repeating 10 5 (entry .set 1 5)).course 38 true).skipped = 3
      ∧ ((repeating 10 5 (entry .set 1 5)).course 38 true).remaining = 1
      ∧ ((repeating 10 5 (entry .set 1 5)).course 99 true).again.isNone = true
      ∧ ((repeating 10 0 (entry .set 1 (2 ^ 56 - 10))).course 38 false).again.isNone = true := by decide

/-- A late DROP_LATE entry: dropped, once the lateness is above the margin of 4. -/
def dropping (now : Nat) : State :=
  at_ now (seq .running (table [{ entry .set 1 5 with late := .dropLate }] State.reset))

theorem test_taking_drops :
    (after .taking (dropping 10)).lines.level = 0 ∧ (after .taking (dropping 9)).lines.level = 1
      ∧ (after .taking (dropping 10)).irq.isSet .late = true := by decide

/-- A counted entry that retires by overflow with two takings left. -/
theorem test_shownRemaining :
    let c := (repeating 10 3 (entry .set 1 (2 ^ 56 - 10))).course (BitVec.ofNat 56 (2 ^ 56 - 9)) false
    c.again.isNone = true ∧ c.remaining = 2
      ∧ c.shownRemaining = (if Config.overflowShowsZero then 0 else 2) := by
  refine ⟨by decide, by decide, rfl⟩

theorem test_meets_LateDropLateEntryIsDropped :
    Awake (dropping 10) ∧ (dropping 10).table.entries = { entry .set 1 5 with late := .dropLate } :: []
      ∧ (dropping 10).seq.state ≠ .stopped ∧ (entry .set 1 5).due.toNat ≤ (dropping 10).timebase.integer.toNat
      ∧ (entry .set 1 5).action ≠ .trail
      ∧ (dropping 10).timebase.lateMargin.toNat < (dropping 10).timebase.integer.toNat - 5 := by decide

/-- A SINGLE sequencer fires its head and stops. -/
theorem test_taking_single :
    let t := after .taking (at_ 9 (seq .single (table [entry .set 1 5] State.reset)))
    t.lines.level = 1 ∧ t.seq.stopCause = .single ∧ t.table.entries = [] ∧ t.report.notices.length = 2 := by
  decide

/-- An entry on time (lateness 4, the margin) and one late (lateness 5). -/
theorem test_meets_DueEntryFires :
    let s := seq .running (table [entry .set 1 5] State.reset)
    Awake s ∧ s.seq.state ≠ .stopped ∧ s.table.entries = entry .set 1 5 :: []
      ∧ (entry .set 1 5).due.toNat ≤ (at_ 5 s).timebase.integer.toNat
      ∧ (entry .set 1 5).action ≠ .trail ∧ (entry .set 1 5).action.isPulse = false
      ∧ (entry .set 1 5).reserved = false ∧ (entry .set 1 5).late = .fireLate
      ∧ ¬ (at_ 9 s).timebase.lateMargin.toNat < 9 - 5 ∧ (at_ 10 s).timebase.lateMargin.toNat < 10 - 5 := by
  decide

/-- A repeating PULSE: its TRAIL at due + width, itself at due + interval with a fresh reservation. -/
theorem test_taking_pulse :
    let e := repeating 10 3 (entry (.pulse 4) 3 5)
    let t := after .taking (at_ 5 (seq .running (table [e] State.reset)))
    t.table.entries.map (fun x => (x.action, x.due.toNat, x.reserved))
      = [(.trail, 9, false), (.pulse 4, 15, true)] ∧ t.lines.level = 3 := by decide

theorem test_meets_DuePulseMakesItsTrail :
    let s := at_ 5 (seq .running (table [entry (.pulse 4) 3 5] State.reset))
    Awake s ∧ s.seq.state ≠ .stopped ∧ s.table.entries = entry (.pulse 4) 3 5 :: []
      ∧ (entry (.pulse 4) 3 5).due.toNat ≤ s.timebase.integer.toNat
      ∧ (entry (.pulse 4) 3 5).reserved = true ∧ (entry (.pulse 4) 3 5).late = .fireLate := by decide

/-- A repeating PULSE at the head of a table whose other slots are all taken. -/
def crowded : State :=
  at_ 5 (seq .running (table (repeating 10 3 (entry (.pulse 4) 3 5) :: List.replicate 254 (entry .set 1 99))
    State.reset))

/-- The NO_ROOM retirement: the TRAIL takes the reservation and 255 entries are left, so no slot is free
for a fresh reservation beside the entry's own. -/
theorem test_meets_DuePulse_noRoom :
    Awake crowded ∧ crowded.seq.state ≠ .stopped
      ∧ crowded.table.entries
        = repeating 10 3 (entry (.pulse 4) 3 5) :: List.replicate 254 (entry .set 1 99)
      ∧ ((repeating 10 3 (entry (.pulse 4) 3 5)).course 5 false).again.isSome = true
      ∧ 256 ≤ occupancyOf (insertEntry ((entry (.pulse 4) 3 5).trail 4 3)
          (List.replicate 254 (entry .set 1 99))) + 1
      ∧ (after .taking crowded).table.entries.length = 255
      ∧ (after .taking crowded).report.notices.length = 1 := by decide

/-- A PULSE whose every line is in PATTERN mode: no TRAIL, and the refused line is reported. -/
theorem test_meets_DuePulse_refused :
    let s := at_ 200 (seq .running (lines patternLines (table [entry (.pulse 4) 4 200] State.reset)))
    Awake s ∧ s.seq.state ≠ .stopped ∧ s.table.entries = entry (.pulse 4) 4 200 :: []
      ∧ (entry (.pulse 4) 4 200).lines &&& ~~~ s.lines.patternMask = 0
      ∧ (after .taking s).table.entries = [] ∧ (after .taking s).report.notices.length = 1 := by decide

/-- In STOPPED a due TRAIL is taken from behind an overdue SET. -/
def trailing : State :=
  at_ 8 (lines { LineUnit.reset with level := 3 } (table [entry .set 4 5, entry .trail 1 6] State.reset))

theorem test_meets_DueTrailFiresInEveryState :
    Awake trailing ∧ trailing.seq.state = .stopped
      ∧ trailing.table.entries = [entry .set 4 5] ++ entry .trail 1 6 :: []
      ∧ (entry .trail 1 6).due.toNat ≤ trailing.timebase.integer.toNat
      ∧ (∀ x ∈ [entry .set 4 5], x.action = .trail → trailing.timebase.integer.toNat < x.due.toNat)
      ∧ (after .taking trailing).lines.level = 2 := by decide

/-! ### Lines and generators -/

/-- A mask with a PATTERN line and STATIC lines. -/
theorem test_fire_static :
    (patternLines.fire .set 7 0 0).lines.level = 3 ∧ (patternLines.fire .set 7 0 0).refused = 4
      ∧ (patternLines.fire .toggle 3 0 0).lines.level = 3 := by decide

/-- A running generator in the mask, a stopped one, and a line outside it. -/
theorem test_meets_PatternKindsActOnGenerators :
    patternLines.gens[2].running = true ∧ patternLines.gens[0].running = false
      ∧ (5#16).getLsbD 2 = true ∧ (5#16).getLsbD 0 = true ∧ (5#16).getLsbD 1 = false
      ∧ (patternLines.fire (.patternLoad ⟨8, 2⟩) 5 0 0).lines.gens[2].reloadPending = true
      ∧ (patternLines.fire .patternStart 1 7 9).lines.gens[0].nextStart = 11 := by decide

/-- The generator with a pending stop, and with a reload. -/
def pendingLines (stop : Option Bool) (reload : Bool) : State :=
  let g := { running with pendingStop := stop, reloadPending := reload }
  at_ 1100 (lines { LineUnit.reset with gens := LineUnit.reset.gens.set 2 g } State.reset)

theorem test_periodStartEvent :
    let t := after (.periodStartEvent 2) (pendingLines (some true) true)
    t.lines.gens[2].running = false ∧ t.lines.gens[2].active = ⟨400, 100⟩ ∧ t.lines.level = 4
      ∧ t.report.notices = [{ time := 1100, body := .patternStopped 2 true .atBoundary }] := by decide

theorem test_periodStartEvent_reload :
    let t := after (.periodStartEvent 2) (pendingLines none true)
    t.lines.gens[2].start = 1100 ∧ t.lines.gens[2].nextStart = 1500
      ∧ (after (.periodStartEvent 2) (pendingLines none false)).lines.gens[2].nextStart = 2100 := by decide

/-- The period start is reached at 1100 and not at 1099. -/
theorem test_meets_PeriodStartResolvesStopThenReload :
    Awake (pendingLines none true) ∧ (pendingLines none true).lines.gens[2].running = true
      ∧ (pendingLines none true).lines.gens[2].nextStart ≤ 1100
      ∧ ¬ (pendingLines none true).lines.gens[2].nextStart ≤ 1099
      ∧ (pendingLines (some true) true).lines.gens[2].pendingStop = some true
      ∧ (pendingLines none true).lines.gens[2].pendingStop = none
      ∧ (pendingLines none true).lines.gens[2].reloadPending = true
      ∧ (pendingLines none false).lines.gens[2].reloadPending = false := by decide

/-- The fault input enabled, and a safe level of 1 on an inverted line. -/
def guarded : State :=
  lines { patternLines with faultEnable := true, gateOpen := true, safe := 4, polarity := 6 } State.reset

theorem test_faultLatch :
    let t := after .faultLatch guarded
    t.lines.gateOpen = false ∧ t.lines.level = 2 ∧ t.pins = 4 ∧ t.lines.gens[2].running = false
      ∧ t.irq.isSet .fault = true := by decide

theorem test_faultNSeenChange :
    (after (.faultNSeenChange true) State.reset).lines.faultSeen = true
      ∧ (after (.faultNSeenChange true) State.reset).lines.faultLatch = false
      ∧ (after (.faultNSeenChange true) guarded).lines.faultLatch = true := by decide

theorem test_meets_FaultIsLatchedOnce :
    Awake guarded ∧ guarded.lines.faultEnable = true ∧ guarded.lines.faultLatch = false
      ∧ State.reset.lines.faultEnable = false ∧ latched.faultLatch = true := by decide

theorem test_gateOpen :
    (after .gateOpen (issued .gateOpen setWords State.reset)).lines.gateOpen = true
      ∧ (after .gateOpen (issued .gateOpen setWords (lines latched State.reset))).port.result
        = .faultActive := by decide

theorem test_faultClear :
    (after .faultClear (issued .faultClear setWords (lines latched State.reset))).lines.faultLatch = false
      ∧ (after .faultClear (issued .faultClear setWords
          (lines { latched with faultSeen := true } State.reset))).port.result = .faultActive := by decide

theorem test_meets_GateOpensAndFaultClears :
    Issues (issued .gateOpen setWords State.reset) .gateOpen setWords
      ∧ Issues (issued .faultClear setWords State.reset) .faultClear setWords
      ∧ latched.faultLatch = true ∧ State.reset.lines.faultLatch = false
      ∧ ¬ (State.reset.lines.faultEnable = true ∧ State.reset.lines.faultSeen = true)
      ∧ ({ latched with faultSeen := true } : LineUnit).faultSeen = true
      ∧ State.reset.lines.faultSeen = false := by decide

theorem test_gateClose :
    let t := after .gateClose (issued .gateClose setWords guarded)
    t.lines.gateOpen = false ∧ t.pins = 4 ∧ t.lines.gens = guarded.lines.gens ∧ t.port.result = .ok := by
  decide

/-- A part with the gate CLOSED; a taking, a LINE_WRITE and a period start that act behind it. -/
theorem test_meets_GateCloseIsNeverRefused :
    Issues (issued .gateClose setWords State.reset) .gateClose setWords
      ∧ State.reset.lines.gateOpen = false
      ∧ (after .taking (dropping 9)).lines.gateOpen = false ∧ (after .taking (dropping 9)).lines.level = 1 := by
  decide

theorem test_lineWrite :
    let t := after .lineWrite (issued .lineWrite (words 7 3 0 0 0 0 0) (lines patternLines (at_ 200 State.reset)))
    t.lines.level = 3 ∧ t.port.value0 = 4 ∧ t.port.value1 = 7 := by decide

/-- A mask without a line, with the lowest, and with all. -/
theorem test_meets_LineWriteSetsStaticLines :
    Issues (issued .lineWrite setWords State.reset) .lineWrite setWords
      ∧ (0xFFFF0000#32).extractLsb' 0 16 = 0#16 ∧ (1#32).extractLsb' 0 16 ≠ 0#16
      ∧ (0xFFFF#32).extractLsb' 0 16 ≠ 0#16 := by decide

theorem test_outPolarityWrite : (after (.outPolarityWrite 0x10002) State.reset).lines.polarity = 2 := by
  decide

theorem test_outSafeWrite : (after (.outSafeWrite 0x10002) State.reset).pins = 2 := by decide

theorem test_faultConfigWrite : (after (.faultConfigWrite 3) State.reset).lines.faultEnable = true := by
  decide

theorem test_meets_PinsFollowGateLevelAndPolarity : Awake State.reset := by decide

/-! ### Capture and responses -/

/-- An edge 10 after the last accepted one is accepted, and one 9 after it is suppressed. -/
theorem test_inputEdge :
    let t := after (.inputEdge 3 .rise) (at_ 110 (capturing .oneShot))
    t.capture.log = [{ line := 3, edge := .rise, stamp := 110, seq := 1, supp := 0 }]
      ∧ t.response.templates[3].state = .claiming ∧ t.response.claims.length = 1
      ∧ (after (.inputEdge 3 .rise) (at_ 109 (capturing .oneShot))).capture.inputs[3].supp = 1 := by decide

theorem test_inputEdge_lost :
    let t := after (.inputEdge 3 .rise) (fullLog (at_ 110 (capturing .continuous)))
    t.capture.inputs[3].lost = 1 ∧ t.irq.isSet .captureLoss = true
      ∧ t.response.templates[3].state = .armed ∧ t.response.claims.length = 1 := by decide

/-- A line at the other level; edges examined and not; the window's two ends; both sizes of the log; an
armed template, and one that is not. -/
theorem test_meets_EdgeIsAcceptedSuppressedOrPassed :
    Awake (capturing .oneShot) ∧ (capturing .oneShot).capture.inputs[3].sync = some (!true)
      ∧ inputLine.enable = true ∧ inputLine.select = .both ∧ InputLine.reset.enable = false
      ∧ inputLine.lastAccepted = some 100 ∧ 109 - 100 < inputLine.holdoff.toNat
      ∧ ¬ 110 - 100 < inputLine.holdoff.toNat
      ∧ (capturing .oneShot).capture.log.length < 64
      ∧ 64 ≤ (fullLog (capturing .oneShot)).capture.log.length
      ∧ (capturing .oneShot).response.templates[3].state = .armed
      ∧ State.reset.response.templates[3].state ≠ .armed := by decide

theorem test_capLostWrite :
    let lost := after (.inputEdge 3 .rise) (fullLog (at_ 110 (capturing .continuous)))
    (after (.capLostWrite 3 0xFFFFFFFF) lost).capture.inputs[3].lost = 0
      ∧ (after (.capLostWrite 3 0) lost).irq.isSet .captureLoss = true := by decide

/-- A narrow write at either end of the lanes, and a full log. -/
theorem test_meets_CapLostWriteClearsTheCounter :
    Awake (fullLog State.reset) ∧ (0#4) ≠ 0xF#4 ∧ (14#4) ≠ 0xF#4
      ∧ 64 ≤ (fullLog State.reset).capture.log.length := by decide

theorem test_capConfigWrite :
    let t := after (.capConfigWrite 3 0x000A0021) State.reset
    t.capture.inputs[3].select = .both ∧ t.capture.inputs[3].holdoff = 10
      ∧ (after (.capConfigWrite 3 0x000A0031) State.reset).capture = State.reset.capture := by decide

theorem test_firstSynchronisedLevel :
    (after (.firstSynchronisedLevel 3 true) State.reset).capture.inputs[3].sync = some true
      ∧ (after (.firstSynchronisedLevel 3 true) State.reset).capture.log = [] := by decide

/-- The four edge encodings, and a line without a level. -/
theorem test_meets_InputLineSettingsAndFirstLevel :
    Awake State.reset ∧ ((0x30#32).extractLsb' 4 2).toNat = 3
      ∧ EdgeSelect.rise.code.toNat = ((0x00#32).extractLsb' 4 2).toNat
      ∧ EdgeSelect.fall.code.toNat = ((0x10#32).extractLsb' 4 2).toNat
      ∧ EdgeSelect.both.code.toNat = ((0x20#32).extractLsb' 4 2).toNat
      ∧ State.reset.capture.inputs[3].sync = none := by decide

/-- RESPONSE_LOAD of a SET on OUT1 into template `n`, 20 after the edge, CONTINUOUS. -/
def loadWords (n : Word) : Words8 := words 0x01010002 ((n <<< 16) ||| 9) 0 0 0 0 20

theorem test_responseLoad :
    let t := after .responseLoad (issued .responseLoad (loadWords 7) State.reset)
    t.response.templates[7] = template .disarmed .continuous
      ∧ (after .responseLoad (issued .responseLoad (loadWords 8) State.reset)).port.result = .badIndex := by
  decide

theorem test_responseArm :
    (after .responseArm (issued .responseArm (words 3 0 0 0 0 0 0)
        (after .responseDisarm (issued .responseDisarm (words 3 0 0 0 0 0 0) (capturing .oneShot)))
      )).response.templates[3].state = .armed
      ∧ (after .responseArm (issued .responseArm (words 2 0 0 0 0 0 0) State.reset)).port.result
        = .state := by decide

theorem test_responseDisarm :
    (after .responseDisarm (issued .responseDisarm (words 3 0 0 0 0 0 0) (capturing .oneShot))
      ).response.templates[3].state = .disarmed
      ∧ (after .responseDisarm (issued .responseDisarm (words 2 0 0 0 0 0 0) State.reset)).port.result
        = .ok := by decide

/-- A part with a claim of template 3 outstanding. -/
def triggered : State := after (.inputEdge 3 .rise) (at_ 110 (capturing .oneShot))

/-- Template numbers 7 and 8; fields that pass and that fail; EMPTY, loaded, and with a claim. -/
theorem test_meets_ResponseCommandsChangeOneTemplate :
    Issues (issued .responseLoad (loadWords 7) State.reset) .responseLoad (loadWords 7)
      ∧ Issues (issued .responseArm setWords State.reset) .responseArm setWords
      ∧ Issues (issued .responseDisarm setWords State.reset) .responseDisarm setWords
      ∧ ((loadWords 7)[1].extractLsb' 16 16).toNat = 7 ∧ ((loadWords 8)[1].extractLsb' 16 16).toNat = 8
      ∧ State.reset.response.templates[3].state = .empty
      ∧ (capturing .oneShot).response.templates[3].state ≠ .empty
      ∧ triggered.response.claims.map (·.line) = [3] := by decide

/-- Words that pass the checks, and words that fail each in turn. -/
theorem test_meets_ResponseCommands_checks :
    GoodKind (loadWords 7) ∧ GoodLines (loadWords 7) ∧ ¬ BadParameter (loadWords 7)
      ∧ ¬ GoodKind (words 0 0 0 0 0 0 0) ∧ ¬ GoodKind (words 0x00090001 0 0 0 0 0 0)
      ∧ GoodKind (words 0x00010000 0 0 0 0 0 0) ∧ ¬ GoodLines (words 0x00010000 0 0 0 0 0 0)
      ∧ GoodLines (words 0x00080000 0 0 0 0 0 0) ∧ BadParameter (words 0x00040001 0 0 0 0 0 0) := by decide

/-- A kind that ignores param B keeps 0 in its place (R25). -/
theorem test_responseLoad_ignored_parameter :
    let t := after .responseLoad (issued .responseLoad (words 0x00040001 0 0 0 9 8 20) State.reset)
    t.response.templates[0].fields.paramA = 9 ∧ t.response.templates[0].fields.paramB = 0
      ∧ t.response.templates[0].fields.kind = some .pulse := by decide

theorem test_responseClaim :
    let t := after .responseClaim triggered
    t.table.entries.map (·.due) = [130] ∧ t.response.templates[3].state = .disarmed
      ∧ t.response.claims = [] := by decide

theorem test_responseClaim_lost :
    let t := after .responseClaim (fullTable triggered)
    t.report.notices = [{ time := 110, body := .responseLost 3 110 .tableFull }]
      ∧ t.response.templates[3].state = .armed := by decide

/-- A due of 2^56-1 and one above it; one slot free, and none. -/
theorem test_meets_ResponseClaimAdmitsOrIsLost :
    Awake triggered
      ∧ triggered.response.claims = { line := 3, fields := loadedFields, delay := 20, stamp := 110 } :: []
      ∧ (BitVec.ofNat 56 (2 ^ 56 - 21)).toNat + (template .armed .oneShot).delay.toNat = 2 ^ 56 - 1
      ∧ 2 ^ 56 - 1 < (BitVec.ofNat 56 (2 ^ 56 - 20)).toNat + (template .armed .oneShot).delay.toNat
      ∧ 256 - occupancyOf (fullTable triggered).table.entries = 0
      ∧ 256 - occupancyOf (List.replicate 255 (entry .set 1 9)) = 1 := by decide

theorem test_meets_ResponseClaim_action : loadedFields.action = .ok .set := rfl

/-! ### The report unit -/

theorem test_offer_lost :
    (offer .tableEmpty (fullQueue State.reset)).report.noticeLoss = 1
      ∧ (offer .tableEmpty (fullQueue State.reset)).irq.isSet .noticeLoss = true := by decide

/-- A queue of 31 notices and one of 32. -/
theorem test_meets_OfferedNoticeIsQueuedOrCounted :
    (List.replicate 31 note).length < 32 ∧ 32 ≤ (fullQueue State.reset).report.notices.length := by decide

theorem test_reportWriteStart :
    let t := after .reportWriteStart reporting
    t.report.inFlight = some .notice ∧ t.bus.reportSlot = some { address := 0, data := note.words }
      ∧ (after .reportWriteStart State.reset).report = State.reset.report := by decide

theorem test_meets_ReportWriterStartsByItsRules :
    Awake reporting ∧ reporting.report.state = .running ∧ reporting.report.ring.disablePending = false
      ∧ reporting.bus.masterEnable = true ∧ reporting.report.inFlight = none
      ∧ reporting.report.notices = note :: [] ∧ reporting.capture.log = []
      ∧ State.reset.report.state ≠ .running := by decide

theorem test_reportWriteDone :
    let t := after .reportWriteDone { writing with report := { writing.report with noticeLoss := 6 } }
    t.report.notices = [{ time := 0, body := .noticeLoss 6 }] ∧ t.report.noticeLoss = 0
      ∧ t.report.ring.prod = 1 ∧ t.irq.isSet .report = true ∧ t.bus.onBus = none := by decide

theorem test_reportWriteError :
    let t := after .reportWriteError writing
    t.report.state = .halted ∧ t.report.notices = [note] ∧ t.irq.haltReport = true := by decide

/-- A write on the bus, at the threshold and below it, with a disable pending and without; an abandoned
write, on the bus and with its slot emptied; no write at all. -/
theorem test_meets_ReportWriteCompletes :
    writing.bus.onBus = some .report ∧ writing.report.ring.abandoned = false
      ∧ writing.report.inFlight = some .notice ∧ writing.report.threshold ≤ writing.report.count + 1
      ∧ ¬ (2 ≤ writing.report.count + 1) ∧ writing.report.ring.disablePending = false
      ∧ writing.report.state = .running ∧ writing.report.count = 0
      ∧ (after (.reportDisable 0) writing).report.ring.disablePending = true
      ∧ (after (.softReset 2) writing).bus.onBus = some .report
      ∧ (after (.softReset 2) writing).report.ring.abandoned = true
      ∧ emptied.bus.onBus ≠ some .report ∧ emptied.report.ring.abandoned = true
      ∧ emptied.bus.reportSlot = none ∧ State.reset.bus.onBus ≠ some .report
      ∧ State.reset.report.ring.abandoned = false := by decide

/-- With threshold 1 a delivery records the wait start and leaves no wait in progress. -/
theorem test_threshold_one_records_waitStart :
    let t := after .reportWriteDone (at_ 77 writing)
    writing.report.threshold = 1 ∧ t.report.count = 0 ∧ t.report.waitStart = 77 := by decide

/-- A wait of 20 that started at 100, with two records unsignalled. -/
def waiting (now : Nat) : State :=
  at_ now { State.reset with report :=
    { ReportUnit.reset with threshold := 4, delay := 20, count := 2, waitStart := 100 } }

theorem test_coalesceExpiry :
    (after .coalesceExpiry (waiting 119)).report.count = 2
      ∧ (after .coalesceExpiry (waiting 120)).report.count = 0
      ∧ (after .coalesceExpiry (waiting 120)).irq.isSet .report = true
      ∧ (after .coalesceExpiry (waiting 99)).report.count = 0 := by decide

theorem test_reportCoalWrite :
    (after (.reportCoalWrite 0x00000302) (waiting 100)).irq.isSet .report = true
      ∧ (after (.reportCoalWrite 0x00000503) (waiting 104)).report.count = 2
      ∧ (after (.reportCoalWrite 0x1FFFFF00) (waiting 100)).report.delay = 2 ^ 20 := by decide

/-- The wait's two ends, a set backward, and saturation; a threshold reached and one not. -/
theorem test_meets_CoalescingSignalsReport :
    Awake (waiting 120) ∧ (waiting 120).report.count = 2 ∧ 0 < (waiting 120).report.delay
      ∧ (waiting 120).report.waitStart.toNat + (waiting 120).report.delay ≤ 120
      ∧ ¬ (waiting 119).report.waitStart.toNat + (waiting 119).report.delay ≤ 119
      ∧ 99 < (waiting 99).report.waitStart.toNat
      ∧ (waiting (2 ^ 56 - 1)).timebase.integer.toNat = 2 ^ 56 - 1
      ∧ max 1 ((2#32).extractLsb' 0 8).toNat ≤ (waiting 0).report.count
      ∧ (waiting 0).report.count < max 1 ((3#32).extractLsb' 0 8).toNat := by decide

theorem test_reportBaseWrite :
    (after (.reportBaseWrite 0x1FF) State.reset).report.ring.base = 0x1C0
      ∧ (after (.reportBaseWrite 0x1FF) reporting).report.ring.ignoredWrite = true := by decide

theorem test_reportSizeWrite :
    (after (.reportSizeWrite 4096) State.reset).report.ring.size = 4096
      ∧ (after (.reportSizeWrite 17) State.reset).report.ring.ignoredWrite = true := by decide

theorem test_reportProdWrite : (after (.reportProdWrite 17) State.reset).report.ring.prod = 1 := by decide

theorem test_reportConsWrite :
    (after (.reportConsWrite 17) reporting).report.state = .full
      ∧ (after (.reportConsWrite 18) reporting).report.state = .running := by decide

theorem test_reportEnable :
    (after (.reportEnable 1) (master State.reset)).report.state = .running
      ∧ (after (.reportEnable 1) State.reset).report.ring.enableRefused = true := by decide

theorem test_reportDisable :
    (after (.reportDisable 0) reporting).report.state = .disabled
      ∧ (after .reportWriteDone (after (.reportDisable 0) writing)).report.state = .disabled := by decide

theorem test_reportStatusWrite :
    let flagged := run [.reportSizeWrite 17, .reportEnable 1] State.reset
    (after (.reportStatusWrite 0x100) flagged).report.ring.ignoredWrite = false
      ∧ (after (.reportStatusWrite 0x100) flagged).report.ring.enableRefused = true := by decide

/-- A DISABLED ring and an enabled one; sizes 16 and 4096, and 17; the states the enable and the disable
look at. -/
theorem test_meets_ReportRingRegistersObeyTheirChecks :
    Awake reporting ∧ State.reset.report.state = .disabled
      ∧ State.reset.report.ring.disablePending = false ∧ reporting.report.state = .running
      ∧ (16#32).toNat ∈ [16, 32, 64, 128, 256, 512, 1024, 2048, 4096]
      ∧ (4096#32).toNat ∈ [16, 32, 64, 128, 256, 512, 1024, 2048, 4096]
      ∧ (17#32).toNat ∉ [16, 32, 64, 128, 256, 512, 1024, 2048, 4096]
      ∧ (after .reportWriteError writing).report.state = .halted
      ∧ (after (.reportConsWrite 1) reporting).report.state = .full
      ∧ (master State.reset).bus.masterEnable = true ∧ State.reset.bus.masterEnable = false
      ∧ (after (.softReset 2) writing).report.ring.abandoned = true
      ∧ writing.report.inFlight = some .notice := by decide

/-! ### The admission ring -/

theorem test_fetchStart :
    let t := after .fetchStart admitting
    t.aring.fetch = .burst ∧ t.bus.admissionSlot = some 0
      ∧ (after .fetchStart State.reset).aring.fetch = .idle := by decide

theorem test_fetchDone :
    claiming.aring.buffer = some setWords ∧ claiming.aring.fetch = .claim
      ∧ (after (.fetchDone setWords) (after (.aringDisable 0) fetching)).aring.state = .disabled := by decide

theorem test_fetchError :
    let t := after .fetchError fetching
    t.aring.state = .halted ∧ t.irq.haltAdmission = true ∧ t.aring.ring.cons = 0 := by decide

/-- The conditions of a fetch, and one missing; a burst on the bus, abandoned and not, with a disable
pending and without; an abandoned fetch with its slot emptied; no fetch at all. -/
theorem test_meets_DescriptorFetchRunsItsCourse :
    Awake admitting ∧ admitting.aring.state = .running ∧ admitting.aring.ring.disablePending = false
      ∧ admitting.bus.masterEnable = true ∧ admitting.aring.fetch = .idle ∧ admitting.aring.buffer = none
      ∧ admitting.aring.ring.cons ≠ admitting.aring.ring.prod ∧ State.reset.aring.state ≠ .running
      ∧ fetching.bus.onBus = some .admission ∧ fetching.aring.ring.abandoned = false
      ∧ fetching.aring.fetch = .burst ∧ fetching.aring.ring.disablePending = false
      ∧ (after (.aringDisable 0) fetching).aring.ring.disablePending = true
      ∧ (after (.softReset 2) fetching).aring.ring.abandoned = true
      ∧ emptied.bus.onBus ≠ some .admission ∧ emptied.aring.ring.abandoned = true
      ∧ emptied.bus.admissionSlot = none ∧ State.reset.bus.onBus ≠ some .admission
      ∧ State.reset.aring.ring.abandoned = false := by decide

theorem test_descriptorClaim :
    (after .descriptorClaim claiming).table.entries.map (·.tag) = [7]
      ∧ (after .descriptorClaim claiming).aring.ring.cons = 1
      ∧ held.aring.state = .held ∧ held.irq.isSet .admitHeld = true ∧ held.aring.ring.cons = 0 := by decide

/-- A descriptor of kind 0 is rejected with the index it stood at. -/
theorem test_descriptorClaim_rejects :
    let t := run [.fetchDone (words 0 5 0 0 0 0 0), .descriptorClaim] fetching
    t.report.notices = [{ time := 0, body := .rejected 0 .badKind 5 }] ∧ t.aring.ring.cons = 1
      ∧ t.irq.isSet .admitReject = true := by decide

theorem test_retryClaim :
    let t := run [.flush, .retryClaim] (issued .flush setWords held)
    t.table.entries.length = 1 ∧ t.aring.state = .running ∧ t.aring.ring.cons = 1 := by decide

/-- A claim whose slot is published and one whose slot is not; each answer; a retry claim. -/
theorem test_meets_DescriptorClaimHasOneOutcome :
    Awake claiming ∧ claiming.aring.buffer = some setWords ∧ claiming.aring.fetch = .claim
      ∧ claiming.aring.ring.prod ≠ claiming.aring.ring.cons
      ∧ (after (.aringProdWrite 0) claiming).aring.ring.prod = (after (.aringProdWrite 0) claiming).aring.ring.cons
      ∧ reason setWords 0 256 = none ∧ reason setWords 0 0 = some .tableFull
      ∧ reason (words 0 5 0 0 0 0 0) 0 256 = some .badKind
      ∧ held.aring.buffer = some setWords
      ∧ (after .flush (issued .flush setWords held)).aring.state = .held
      ∧ (after .flush (issued .flush setWords held)).aring.retry = true := by decide

theorem test_aringBaseWrite :
    (after (.aringBaseWrite 0x1FF) State.reset).aring.ring.base = 0x1C0
      ∧ (after (.aringBaseWrite 0x1FF) admitting).aring.ring.ignoredWrite = true := by decide

theorem test_aringSizeWrite :
    (after (.aringSizeWrite 32) State.reset).aring.ring.size = 32
      ∧ (after (.aringSizeWrite 8192) State.reset).aring.ring.ignoredWrite = true := by decide

theorem test_aringConsWrite : (after (.aringConsWrite 31) State.reset).aring.ring.cons = 15 := by decide

theorem test_aringProdWrite :
    (after (.aringProdWrite 17) admitting).aring.ring.prod = 1
      ∧ (after (.aringProdWrite 0) held).aring.state = .running
      ∧ (after (.aringProdWrite 0) held).aring.buffer = none := by decide

theorem test_aringEnable :
    (after (.aringEnable 1) (master State.reset)).aring.state = .running
      ∧ (after (.aringEnable 1) State.reset).aring.ring.enableRefused = true := by decide

theorem test_aringDisable :
    (after (.aringDisable 0) claiming).aring.state = .disabled
      ∧ (after (.aringDisable 0) fetching).aring.ring.disablePending = true
      ∧ (after (.aringDisable 0) held).aring.buffer = none := by decide

theorem test_aringStatusWrite :
    let flagged := run [.aringSizeWrite 17, .aringEnable 1] State.reset
    (after (.aringStatusWrite 0x200) flagged).aring.ring.ignoredWrite = true
      ∧ (after (.aringStatusWrite 0x200) flagged).aring.ring.enableRefused = false := by decide

/-- A DISABLED engine, a running one, a HELD one with indices that stay apart and that meet, a HALTED one,
a burst, and the conditions of an enable. -/
theorem test_meets_AdmissionRingRegistersObeyTheirChecks :
    Awake held ∧ State.reset.aring.state = .disabled ∧ State.reset.aring.ring.disablePending = false
      ∧ admitting.aring.state = .running ∧ admitting.aring.fetch ≠ .burst
      ∧ fetching.aring.state = .running ∧ fetching.aring.fetch = .burst
      ∧ held.aring.state = .held ∧ (1#32).toNat % held.aring.ring.size ≠ held.aring.ring.cons
      ∧ (16#32).toNat % held.aring.ring.size = held.aring.ring.cons
      ∧ (after .fetchError fetching).aring.state = .halted
      ∧ (master State.reset).bus.masterEnable = true ∧ State.reset.bus.masterEnable = false
      ∧ (after (.softReset 2) fetching).aring.ring.abandoned = true := by decide

/-! ### Command port, window, bus -/

theorem test_commandIssue :
    let t := run [.registerWrite 0x020 9, .commandIssue 0x21] State.reset
    t.port.buffer = some { command := .timeStep, words := words 9 0 0 0 0 0 0 } ∧ t.port.completions = 0 := by
  decide

theorem test_badCommand :
    let t := after (.badCommand 0xFF) State.reset
    t.port.result = .badCommand ∧ t.port.resultCommand = 0xFF ∧ t.port.completions = 1 := by decide

theorem test_cmdOverrun :
    let t := after (.cmdOverrun 0x01) (issued .timeStep setWords State.reset)
    t.port.overrun = true ∧ t.port.buffer = some { command := .timeStep, words := setWords } := by decide

theorem test_cmdResultWrite :
    (run [.cmdOverrun 0x01, .cmdResultWrite 0x02000000] (issued .timeStep setWords State.reset)).port.overrun
      = false := by decide

/-- A BUSY port; an IDLE one with the first and the last command code, and with a code of none. -/
theorem test_meets_CommandPortTakesOneCommandAtATime :
    Awake State.reset ∧ State.reset.port.buffer = none
      ∧ (issued .timeStep setWords State.reset).port.buffer = some { command := .timeStep, words := setWords }
      ∧ Command.admitCandidate.code = (0x01#32).extractLsb' 0 8
      ∧ Command.responseDisarm.code = (0x42#32).extractLsb' 0 8
      ∧ Command.ofCode 0x00 = none ∧ Command.ofCode 0xFF = none := by decide

/-- CMD and CMD_RESULT written by offset, under either row and with the low address bits set. -/
theorem test_meets_writesByOffset (v : Word) :
    WritesByOffset (.registerWrite 0x040 v) .cmd v ∧ WritesByOffset (.narrowWrite 0x043 0xF v) .cmd v
      ∧ WritesByOffset (.registerWrite 0x044 v) .cmdResult v
      ∧ WritesByOffset (.narrowWrite 0x047 0xF v) .cmdResult v :=
  ⟨⟨0x040, by decide, .inl rfl⟩, ⟨0x043, by decide, .inr rfl⟩, ⟨0x044, by decide, .inl rfl⟩,
    ⟨0x047, by decide, .inr rfl⟩⟩

/-- A command that leaves the overrun flag set, and the offset of CMD_RESULT. -/
theorem test_meets_overrun :
    let s := after (.cmdOverrun 1) (issued .timeStep setWords State.reset)
    s.port.overrun = true ∧ (after .timeStep s).port.overrun = true ∧ Instr.timeStep.wf = true
      ∧ Reg.ofOffset 0x044 = some .cmdResult
      ∧ (after (.registerWrite 0x044 0x02000000) s).port.overrun = false := by decide

theorem test_meets_BusyPortTakesNoCommand :
    let s := issued .timeStep setWords State.reset
    Awake s ∧ s.port.buffer = some { command := .timeStep, words := setWords }
      ∧ (after (.cmdOverrun 1) s).port.overrun = true ∧ Command.admitCandidate.code = (0x01#32).extractLsb' 0 8
      ∧ (2#32).getLsbD 1 = true := by decide

theorem test_narrowWrite :
    let t := after (.narrowWrite 0x020 0xE 9) State.reset
    t.bus.narrowFlag = true ∧ t.port.staging = State.reset.port.staging := by decide

theorem test_busStatusWrite :
    (run [.narrowWrite 0x020 0xE 9, .busStatusWrite 1] State.reset).bus.narrowFlag = false := by decide

theorem test_registerWrite :
    (after (.registerWrite 0x03C 9) State.reset).readOffset 0x03C = 9
      ∧ (after (.registerWrite 0x070 0x10009) State.reset).readOffset 0x070 = 9
      ∧ (after (.registerWrite 0x3FC 9) State.reset) = State.reset := by decide

/-- Lanes 0 and 14; an unmapped offset; a read-only register. -/
theorem test_meets_WindowWritesObeyAccessTypes :
    Awake State.reset ∧ (0#4) ≠ 0xF#4 ∧ (14#4) ≠ 0xF#4 ∧ Reg.ofOffset 0x3FC = none
      ∧ Reg.ofOffset 0x000 = some .id ∧ Reg.id.hasOwnRow = false
      ∧ Reg.ofOffset 0x09C = some .seqConfig := by decide

theorem test_intCauseWrite :
    let t := after (.intCauseWrite 0x00010008) (after .reportWriteError writing)
    t.irq.causes = 0 ∧ t.irq.haltReport = false := by decide

theorem test_intEnableWrite :
    let t := after (.intEnableWrite 0xFFFFFFFF) (after .reportWriteError writing)
    t.readOffset 0x014 = 0x3FF ∧ t.intAsserted = true ∧ t.readOffset 0x018 = 8 := by decide

/-- Both engines ask: the one the mark does not name is granted. -/
theorem test_burstGrant :
    let s := { after .fetchStart admitting with
      report := reporting.report }
    let asked := after .reportWriteStart s
    (after .burstGrant asked).bus.onBus = some .admission
      ∧ (run [.burstGrant, .fetchDone setWords, .burstGrant] asked).bus.onBus = some .report := by decide

theorem test_meets_GrantsAlternate :
    State.reset.bus.onBus = none ∧ State.reset.bus.admissionSlot = none ∧ State.reset.bus.reportSlot = none
      ∧ writing.bus.onBus ≠ none ∧ (after .fetchStart admitting).bus.admissionSlot ≠ none
      ∧ (after .fetchStart admitting).bus.grantMark = .report
      ∧ (after .reportWriteStart reporting).bus.reportSlot ≠ none := by decide

theorem test_meets_IdentificationWordIsFixed :
    Awake State.reset ∧ State.reset.readOffset 0x000 = 0x2B160801#32 := by decide

theorem test_meets_WindowReadsShowEveryField : Awake held ∧ TableInv held ∧ QueueInv held := by
  refine ⟨rfl, ⟨?_, ?_, ?_, ?_, ?_⟩, ?_⟩ <;> decide

/-- Words of Table 11-2 with several fields. -/
theorem test_window_words :
    (seq .single (lines latched State.reset)).readOffset 0x098 = 2
      ∧ (lines latched State.reset).readOffset 0x0B8 = 2
      ∧ (capturing .oneShot).readOffset 0x188 = 0x2000
      ∧ (capturing .oneShot).readOffset 0x1AC = 0x000A0021
      ∧ held.readOffset 0x294 = 2 ∧ held.readOffset 0x290 = 1 := by decide

/-- The FIRED record of Table 11-9. -/
theorem test_fired_record :
    (Notice.mk 106100 (.fired
      { late := true, final := false, trail := false, noRoom := false, serial := 200, tag := 0
        due := 100500, remaining := 3, refused := 0, lateness := 5600, skipped := 1 })).words
      = #v[0x00000012, 106100, 200, 0x00030000, 100500, 0, 5600, 1] := by decide

/-- A refused mask of OUT0 and OUT15, and a time above 2^32, in their places (Tables 11-7 and 11-8). -/
theorem test_fired_record_masks :
    (Notice.mk 0x0100000000000A (.fired
      { late := true, final := false, trail := false, noRoom := true, serial := 3, tag := 7, due := 5
        remaining := 2, refused := 0x8001, lateness := 5, skipped := 1 })).words
      = #v[0x01000092, 0x0000000A, 3, 0x00020007, 5, 0, 0x01000005, 0x80000001] := by decide

end Sys2Proof.Tests
end

section
/-! PROOFS. GATE_CLOSE (R87; O37). The gate stands between the logical levels and the pins alone (R83), so
work on the levels commutes with setting the gate: shown for each operation that the takings, the period
start events and LINE_WRITE are made of, then for the three themselves. -/

namespace Sys2Proof.Machine

/-! ### The gate set -/

/-- The line unit with its gate OPEN or CLOSED. -/
def LineUnit.withGate (b : Bool) (l : LineUnit) : LineUnit := { l with gateOpen := b }

/-- The part with its gate OPEN or CLOSED. -/
def State.withGate (b : Bool) (s : State) : State := { s with lines := s.lines.withGate b }

@[simp] theorem withGate_timebase (b : Bool) (s : State) : (s.withGate b).timebase = s.timebase := rfl
@[simp] theorem withGate_table (b : Bool) (s : State) : (s.withGate b).table = s.table := rfl
@[simp] theorem withGate_seq (b : Bool) (s : State) : (s.withGate b).seq = s.seq := rfl
@[simp] theorem withGate_lines (b : Bool) (s : State) : (s.withGate b).lines = s.lines.withGate b := rfl
@[simp] theorem withGate_capture (b : Bool) (s : State) : (s.withGate b).capture = s.capture := rfl
@[simp] theorem withGate_response (b : Bool) (s : State) : (s.withGate b).response = s.response := rfl
@[simp] theorem withGate_report (b : Bool) (s : State) : (s.withGate b).report = s.report := rfl
@[simp] theorem withGate_aring (b : Bool) (s : State) : (s.withGate b).aring = s.aring := rfl
@[simp] theorem withGate_port (b : Bool) (s : State) : (s.withGate b).port = s.port := rfl
@[simp] theorem withGate_irq (b : Bool) (s : State) : (s.withGate b).irq = s.irq := rfl
@[simp] theorem withGate_bus (b : Bool) (s : State) : (s.withGate b).bus = s.bus := rfl
@[simp] theorem withGate_resetAsserted (b : Bool) (s : State) :
    (s.withGate b).resetAsserted = s.resetAsserted := rfl
@[simp] theorem withGate_periodDraws (b : Bool) (s : State) :
    (s.withGate b).periodDraws = s.periodDraws := rfl
@[simp] theorem withGate_pending (b : Bool) (s : State) : (s.withGate b).pending = s.pending := rfl
@[simp] theorem withGate_gens (b : Bool) (l : LineUnit) : (l.withGate b).gens = l.gens := rfl

/-- The logical levels do not depend on the gate (R85, R87). -/
@[simp] theorem levels_withGate (b : Bool) (s : State) : (s.withGate b).levels = s.levels := rfl

/-- Setting the gate to what it is changes nothing. -/
theorem withGate_of_eq {b : Bool} {s : State} (h : s.lines.gateOpen = b) : s.withGate b = s := by
  subst h
  rfl

/-! ### GATE_CLOSE -/

/-- GATE_CLOSE taken: the gate is CLOSED, and the answer is OK with values 0 (R87). -/
theorem exec_gateClose_of_issues {s : State} {w : Words8} (h : Issues s .gateClose w) :
    exec .gateClose s =
      .next { s.withGate false with port := posted s .gateClose .ok 0 0 } := by
  obtain ⟨hawake, hbuffer⟩ := h
  calc exec .gateClose s
      = live s (takeCommand .gateClose gateCloseOwner) := rfl
    _ = .next (takeCommand .gateClose gateCloseOwner s) := live_of_awake hawake
    _ = .next { s.withGate false with port := posted s .gateClose .ok 0 0 } := by
      rw [takeCommand_of_issued hbuffer]
      rfl

/-! ### Line effects behind the gate -/

/-- A line effect, with the gate of the line unit it leaves set. -/
def Effect.withGate (b : Bool) (e : Effect) : Effect := { e with lines := e.lines.withGate b }

@[simp] theorem effect_withGate_lines (b : Bool) (e : Effect) :
    (e.withGate b).lines = e.lines.withGate b := rfl
@[simp] theorem effect_withGate_refused (b : Bool) (e : Effect) :
    (e.withGate b).refused = e.refused := rfl
@[simp] theorem effect_withGate_raised (b : Bool) (e : Effect) :
    (e.withGate b).raised = e.raised := rfl
@[simp] theorem effect_withGate_notices (b : Bool) (e : Effect) :
    (e.withGate b).notices = e.notices := rfl

/-- A firing has behind a closed gate the effect it has behind an open one (R72, R87). -/
@[simp] theorem fire_withGate (b : Bool) (l : LineUnit) (a : Action) (m : LineMask) (due now : Time) :
    (l.withGate b).fire a m due now = (l.fire a m due now).withGate b := by
  cases a with
  | patternStop mode final => cases mode <;> rfl
  | _ => rfl

/-! ### Operations on the part that ignore the gate -/

/-- The operation leaves the gate as it is and does the same behind an open and a closed one. -/
def IgnoresGate (f : State → State) : Prop :=
  ∀ (b : Bool) (s : State), f (s.withGate b) = (f s).withGate b

@[simp] theorem offer_withGate (n : NoticeBody) (b : Bool) (s : State) :
    offer n (s.withGate b) = (offer n s).withGate b := rfl

@[simp] theorem raise_withGate (c : Cause) (b : Bool) (s : State) :
    raise c (s.withGate b) = (raise c s).withGate b := rfl

@[simp] theorem raiseIf_withGate (p : Bool) (c : Cause) (b : Bool) (s : State) :
    raiseIf p c (s.withGate b) = (raiseIf p c s).withGate b := rfl

@[simp] theorem withEntries_withGate (es : List Entry) (b : Bool) (s : State) :
    (s.withGate b).withEntries es = (s.withEntries es).withGate b := rfl

@[simp] theorem stopSequencer_withGate (c : StopCause) (b : Bool) (s : State) :
    stopSequencer c (s.withGate b) = (stopSequencer c s).withGate b := rfl

/-- A line unit with its gate set, put into the part in place of its own. -/
@[simp] theorem withLines_withGate (l : LineUnit) (b : Bool) (s : State) :
    { s with lines := l.withGate b } = ({ s with lines := l }).withGate b := rfl

@[simp] theorem offerIf_withGate (p : Bool) (n : NoticeBody) (b : Bool) (s : State) :
    offerIf p n (s.withGate b) = (offerIf p n s).withGate b := by
  cases p <;> rfl

@[simp] theorem offerAll_withGate (ns : List NoticeBody) (b : Bool) (s : State) :
    offerAll ns (s.withGate b) = (offerAll ns s).withGate b := by
  induction ns generalizing s with
  | nil => rfl
  | cons n ns ih => simp only [offerAll, offer_withGate, ih]

@[simp] theorem signalFall_withGate (before : Nat) (b : Bool) (s : State) :
    signalFall before (s.withGate b) = (signalFall before s).withGate b := by
  simp only [signalFall, apply_ite (State.withGate b)]
  rfl

/-- A command whose owner ignores the gate, and whose answer does not depend on it, ignores the gate. -/
theorem takeCommand_ignoresGate {c : Command} {owner : Words8 → State → State × Answer}
    (h : ∀ w b s, owner w (s.withGate b) = ((owner w s).1.withGate b, (owner w s).2)) :
    IgnoresGate (takeCommand c owner) := by
  intro b s
  cases hbuffer : s.port.buffer with
  | none =>
    rw [takeCommand_of_idle hbuffer, takeCommand_of_idle (s := s.withGate b) hbuffer]
  | some i =>
    by_cases hc : i.command = c
    · subst hc
      rw [takeCommand_of_issued hbuffer, takeCommand_of_issued (s := s.withGate b) hbuffer, h]
      rfl
    · rw [takeCommand_of_other hbuffer hc, takeCommand_of_other (s := s.withGate b) hbuffer hc]

/-! ### Takings, period starts and LINE_WRITE -/

@[simp] theorem selectEntry_withGate (b : Bool) (s : State) :
    selectEntry (s.withGate b) = selectEntry s := rfl

@[simp] theorem dropEntry_withGate (e : Entry) (c : Course) (rest : List Entry) (b : Bool) (s : State) :
    dropEntry e c rest (s.withGate b) = (dropEntry e c rest s).withGate b := by
  simp [dropEntry]

@[simp] theorem fireEntry_withGate (e : Entry) (c : Course) (rest : List Entry) (b : Bool) (s : State) :
    fireEntry e c rest (s.withGate b) = (fireEntry e c rest s).withGate b := by
  simp [fireEntry]

@[simp] theorem fireTrail_withGate (e : Entry) (rest : List Entry) (b : Bool) (s : State) :
    fireTrail e rest (s.withGate b) = (fireTrail e rest s).withGate b := by
  simp [fireTrail]

@[simp] theorem takeWork_withGate (e : Entry) (rest : List Entry) (b : Bool) (s : State) :
    takeWork e rest (s.withGate b) = (takeWork e rest s).withGate b := by
  simp only [takeWork, withGate_timebase, dropEntry_withGate, fireEntry_withGate,
    apply_ite (State.withGate b)]

@[simp] theorem endSingle_withGate (trail : Bool) (b : Bool) (s : State) :
    endSingle trail (s.withGate b) = (endSingle trail s).withGate b := by
  simp only [endSingle, withGate_seq, stopSequencer_withGate, apply_ite (State.withGate b)]
  rfl

@[simp] theorem reportEmpty_withGate (b : Bool) (s : State) :
    reportEmpty (s.withGate b) = (reportEmpty s).withGate b := by
  simp [reportEmpty]

/-- The sequencer's takings go on behind a closed gate (R87). -/
theorem taking_ignoresGate : IgnoresGate taking := by
  intro b s
  unfold taking
  rw [selectEntry_withGate]
  cases selectEntry s with
  | none => rfl
  | some taken =>
    obtain ⟨e, rest⟩ := taken
    cases htrail : e.isTrail <;> simp [htrail]

/-- The generators' period starts, and their boundary stops, go on behind a closed gate (R87). -/
theorem periodStart_ignoresGate (n : Fin 16) : IgnoresGate (periodStart n) := by
  intro b s
  simp only [periodStart, withGate_lines, withGate_gens, withGate_timebase,
    apply_ite (State.withGate b)]
  cases s.lines.gens[n].pendingStop <;> rfl

/-- LINE_WRITE at the line unit drives the levels, and answers, as behind an open gate (R87, R92). -/
theorem lineWriteOwner_withGate (w : Words8) (b : Bool) (s : State) :
    lineWriteOwner w (s.withGate b) = ((lineWriteOwner w s).1.withGate b, (lineWriteOwner w s).2) := by
  by_cases hmask : maskArgument w[0] = 0
  · simp [lineWriteOwner, hmask]
  · simp only [lineWriteOwner, hmask, if_false]
    rfl

/-! ### The instructions that act behind the gate -/

/-- An event of the part that ignores the gate takes a state with the gate set to the next state with the
gate set. -/
theorem live_withGate {f : State → State} (hf : IgnoresGate f) {s t : State} (b : Bool)
    (h : live s f = .next t) : live (s.withGate b) f = .next (t.withGate b) := by
  rw [live_eq_next] at h ⊢
  subst h
  rw [withGate_resetAsserted, hf b s]
  split <;> rfl

/-- A taking, a LINE_WRITE and a period start event do behind a closed gate what they do behind an open
one (R87). -/
theorem exec_withGate {i : Instr} {s t : State} (b : Bool)
    (hi : i = .taking ∨ i = .lineWrite ∨ ∃ n, i = .periodStartEvent n)
    (h : exec i s = .next t) : exec i (s.withGate b) = .next (t.withGate b) := by
  obtain rfl | rfl | ⟨n, rfl⟩ := hi
  · exact live_withGate taking_ignoresGate b h
  · exact live_withGate (takeCommand_ignoresGate lineWriteOwner_withGate) b h
  · exact live_withGate (periodStart_ignoresGate n) b h

/-- Settles O37: the gate is no operand of the work behind it, so GATE_CLOSE is the setting of the gate and
the posting, and each operation that works on the levels commutes with that setting. -/
theorem gateCloseIsNeverRefused : Obligations.GateCloseIsNeverRefused := by
  refine ⟨fun s w hissues => ⟨exec_gateClose_of_issues hissues, fun hclosed => ?_⟩,
    levels_withGate false, fun s t b i => exec_withGate b⟩
  rw [exec_gateClose_of_issues hissues, withGate_of_eq hclosed]

end Sys2Proof.Machine
end

section
/-! PROOFS. The lost counter of a capture input line (R116, R118, R119; O41). A record offered to a full log
and a full-word write of CAP_LOST_n are both changes of one input line, so what the counter holds after one
follows the other is read off the line that the two changes leave. -/

namespace Sys2Proof.Machine

/-! ### One input line changed -/

/-- The line that a change of input line `n` leaves. -/
theorem onInput_getElem_same (n : Fin 8) (f : InputLine → InputLine) (s : State) :
    (onInput n f s).capture.inputs[n] = f s.capture.inputs[n] := by
  simp

/-- A counter at 0 counts to 1. -/
theorem satInc_zero_word : satInc (0 : BitVec 32) = 1 := by decide

/-! ### A record offered to a full log -/

/-- A record offered to a full log is lost: its line counts it and CAPTURE_LOSS is set (R116, R118). -/
theorem offerRecord_of_full {s : State} (r : CaptureRecord) (h : Config.logSlots ≤ s.capture.log.length) :
    offerRecord r s =
      raise .captureLoss (onInput r.line (fun l => { l with lost := satInc l.lost }) s) := by
  simp [offerRecord, Nat.not_lt.mpr h]

/-- A record lost steps the lost counter of its line. -/
theorem offerRecord_lost_of_full {s : State} (r : CaptureRecord)
    (h : Config.logSlots ≤ s.capture.log.length) :
    (offerRecord r s).capture.inputs[r.line].lost = satInc s.capture.inputs[r.line].lost := by
  rw [offerRecord_of_full r h, raise_capture, onInput_getElem_same]

/-- Whether RESET_N is asserted does not depend on the records offered. -/
@[simp] theorem offerRecord_resetAsserted (r : CaptureRecord) (s : State) :
    (offerRecord r s).resetAsserted = s.resetAsserted := by
  unfold offerRecord
  split <;> rfl

/-! ### Accesses at the window -/

/-- The window offset of CAP_LOST_n (Table 11-1). -/
theorem ofOffset_capLost (n : Fin 8) :
    Reg.ofOffset (BitVec.ofNat 10 (0x200 + 4 * n.val)) = some (.capLost n) := by
  revert n
  decide

/-- A narrow write sets the narrow-write flag and nothing else (R181). -/
theorem exec_narrowWrite_of_awake {s : State} {lanes : BitVec 4} (offset : BitVec 10) (v : Word)
    (hawake : Awake s) (hlanes : lanes ≠ 0xF) :
    exec (.narrowWrite offset lanes v) s =
      .next { s with bus := { s.bus with narrowFlag := true } } := by
  calc exec (.narrowWrite offset lanes v) s
      = live s (writeLanes offset lanes v) := rfl
    _ = .next (writeLanes offset lanes v s) := live_of_awake hawake
    _ = .next { s with bus := { s.bus with narrowFlag := true } } := by
      rw [writeLanes, if_neg hlanes]

/-! ### A full-word write of CAP_LOST_n -/

/-- The write leaves the counter of its line at 0, whatever is written (R119). -/
theorem writeCapLost_lost (n : Fin 8) (v : Word) (s : State) :
    (writeCapLost n v s).capture.inputs[n].lost = 0 := by
  rw [writeCapLost, onInput_getElem_same]

/-- The write leaves the log as it is. -/
theorem writeCapLost_log (n : Fin 8) (v : Word) (s : State) :
    (writeCapLost n v s).capture.log = s.capture.log := rfl

/-- CAP_LOST_WRITE is the write of CAP_LOST_n (R119). -/
theorem exec_capLostWrite_of_awake {s : State} (n : Fin 8) (v : Word) (hawake : Awake s) :
    exec (.capLostWrite n v) s = .next (writeCapLost n v s) :=
  live_of_awake hawake

/-- A record lost after the write makes the counter 1 (R118, R119). -/
theorem lost_of_offerRecord_writeCapLost {s : State} (r : CaptureRecord) (v : Word)
    (h : Config.logSlots ≤ s.capture.log.length) :
    (offerRecord r (writeCapLost r.line v s)).capture.inputs[r.line].lost = 1 := by
  rw [← writeCapLost_log r.line v s] at h
  rw [offerRecord_lost_of_full r h, writeCapLost_lost]
  exact satInc_zero_word

/-- A CAP_LOST_WRITE after a record is offered makes the counter 0, whatever became of the record (R119). -/
theorem lost_of_exec_capLostWrite_offerRecord {s t : State} {r : CaptureRecord} {n : Fin 8} {v : Word}
    (hawake : Awake s) (h : exec (.capLostWrite n v) (offerRecord r s) = .next t) :
    t.capture.inputs[n].lost = 0 := by
  have hawake' : Awake (offerRecord r s) := by rwa [Awake, offerRecord_resetAsserted]
  rw [exec_capLostWrite_of_awake n v hawake', Host.Outcome.next.injEq] at h
  rw [← h, writeCapLost_lost]

/-- Settles O41: the write is the change of the one line that sets its counter to 0, so a loss that follows
steps the counter from 0, and a write that follows a loss sets it to 0 as any write does. -/
theorem capLostWriteClearsTheCounter : Obligations.CapLostWriteClearsTheCounter := by
  intro s n v lanes hawake
  refine ⟨exec_capLostWrite_of_awake n v hawake, readOffset_of_mapped hawake (ofOffset_capLost n),
    exec_narrowWrite_of_awake _ v hawake, ?_⟩
  rintro r rfl hfull
  exact ⟨lost_of_offerRecord_writeCapLost r v hfull,
    fun t => lost_of_exec_capLostWrite_offerRecord hawake⟩

end Sys2Proof.Machine
end

section
/-! PROOFS. The command port while it is BUSY (R172 to R176; O54). Outside the port an operation of the part
leaves the whole port as it is, said once for each operation; the port's own operations touch the overrun
flag only to set it, but for the resets and the write of CMD_RESULT. Over all the commands this gives what can
clear the flag. -/

namespace Sys2Proof.Machine

/-! ### The port's own operations -/

/-- The code of a command names that command (Table 11-4). -/
@[simp] theorem ofCode_code (k : Command) : Command.ofCode k.code = some k := by
  cases k <;> rfl

/-- A posting empties the buffer (R173). -/
@[simp] theorem post_buffer (p : CommandPort) (c : BitVec 8) (a : Answer) :
    (p.post c a).buffer = none := rfl

/-- A posting leaves the overrun flag (R173, R174). -/
@[simp] theorem post_overrun (p : CommandPort) (c : BitVec 8) (a : Answer) :
    (p.post c a).overrun = p.overrun := rfl

/-- A write of CMD while the port is BUSY only sets the overrun flag (R174). -/
theorem portWriteCmd_of_busy {p : CommandPort} {b : Issued} (v : Word) (h : p.buffer = some b) :
    p.writeCmd v = { p with overrun := true } := by
  simp [CommandPort.writeCmd, h]

/-- A write of CMD while the port is IDLE issues the command that its bits 7:0 name (R172). -/
theorem portWriteCmd_of_named {p : CommandPort} {v : Word} {k : Command} (h : p.buffer = none)
    (hk : Command.ofCode (commandCode v) = some k) :
    p.writeCmd v = { p with buffer := some { command := k, words := p.staging } } := by
  simp [CommandPort.writeCmd, h, hk]

/-- A write of CMD of a code that names no command, while the port is IDLE, is answered BAD_COMMAND (R175). -/
theorem portWriteCmd_of_unnamed {p : CommandPort} {v : Word} (h : p.buffer = none)
    (hv : Command.ofCode (commandCode v) = none) :
    p.writeCmd v = p.post (commandCode v) (.refusal .badCommand) := by
  simp [CommandPort.writeCmd, h, hv]

/-- A write of CMD sets the overrun flag while the port is BUSY, and leaves it while the port is IDLE (R172,
R174, R175). -/
theorem portWriteCmd_overrun (v : Word) (p : CommandPort) :
    (p.writeCmd v).overrun = (p.overrun || p.buffer.isSome) := by
  cases hbuffer : p.buffer with
  | some b => simp [portWriteCmd_of_busy v hbuffer]
  | none =>
    cases hk : Command.ofCode (commandCode v) with
    | some k => simp [portWriteCmd_of_named hbuffer hk]
    | none => simp [portWriteCmd_of_unnamed hbuffer hk]

/-! ### The timebase leaves the port -/

@[simp] theorem crossEpoch_port (old : Time) (s : State) : (crossEpoch old s).port = s.port := by
  unfold crossEpoch
  split <;> rfl

@[simp] theorem holdTrim_port (old : Time) (s : State) : (holdTrim old s).port = s.port := by
  unfold holdTrim
  split <;> rfl

@[simp] theorem advance_port (s : State) : (advance s).port = s.port := by
  unfold advance
  split
  · rfl
  · simp

@[simp] theorem timeStepOwner_port (w : Words8) (s : State) : (timeStepOwner w s).1.port = s.port := by
  simp only [timeStepOwner, apply_ite Prod.fst, apply_ite State.port, crossEpoch_port, holdTrim_port,
    placeInteger_port, ite_self]

@[simp] theorem timeSetOwner_port (w : Words8) (s : State) : (timeSetOwner w s).1.port = s.port := by
  simp only [timeSetOwner, apply_ite Prod.fst, apply_ite State.port, placeInteger_port, ite_self]

@[simp] theorem trimSetOwner_port (w : Words8) (s : State) : (trimSetOwner w s).1.port = s.port := by
  unfold trimSetOwner
  split <;> rfl

/-! ### The table controller leaves the port -/

@[simp] theorem admitOwner_port (w : Words8) (s : State) : (admitOwner w s).1.port = s.port := by
  unfold admitOwner
  split <;> rfl

@[simp] theorem removeEntries_port (keep : Entry → Bool) (s : State) :
    (removeEntries keep s).1.port = s.port := by
  simp [removeEntries]

@[simp] theorem cancelTagOwner_port (w : Words8) (s : State) : (cancelTagOwner w s).1.port = s.port :=
  removeEntries_port _ s

@[simp] theorem flushOwner_port (w : Words8) (s : State) : (flushOwner w s).1.port = s.port :=
  removeEntries_port _ s

@[simp] theorem cancelLinesOwner_port (w : Words8) (s : State) :
    (cancelLinesOwner w s).1.port = s.port := by
  simp only [cancelLinesOwner, apply_ite Prod.fst, apply_ite State.port, signalFall_port,
    withEntries_port, ite_self]

@[simp] theorem queryTagOwner_port (w : Words8) (s : State) : (queryTagOwner w s).1.port = s.port := rfl

@[simp] theorem faultClaim_port (s : State) : (faultClaim s).port = s.port := by
  unfold faultClaim
  split
  · rfl
  · simp

/-! ### The line unit leaves the port -/

@[simp] theorem periodStart_port (n : Fin 16) (s : State) : (periodStart n s).port = s.port := by
  simp only [periodStart]
  split
  · cases s.lines.gens[n].pendingStop <;> rfl
  · rfl

@[simp] theorem sampleFaultN_port (asserted : Bool) (s : State) :
    (sampleFaultN asserted s).port = s.port := by
  unfold sampleFaultN
  split <;> rfl

@[simp] theorem gateOpenOwner_port (w : Words8) (s : State) : (gateOpenOwner w s).1.port = s.port := by
  unfold gateOpenOwner
  split <;> rfl

@[simp] theorem gateCloseOwner_port (w : Words8) (s : State) : (gateCloseOwner w s).1.port = s.port := rfl

@[simp] theorem faultClearOwner_port (w : Words8) (s : State) :
    (faultClearOwner w s).1.port = s.port := by
  unfold faultClearOwner
  split <;> rfl

@[simp] theorem lineWriteOwner_port (w : Words8) (s : State) : (lineWriteOwner w s).1.port = s.port := by
  simp only [lineWriteOwner, apply_ite Prod.fst, apply_ite State.port, ite_self]

@[simp] theorem writePolarity_port (v : Word) (s : State) : (writePolarity v s).port = s.port := rfl

@[simp] theorem writeSafe_port (v : Word) (s : State) : (writeSafe v s).port = s.port := rfl

@[simp] theorem writeFaultConfig_port (v : Word) (s : State) : (writeFaultConfig v s).port = s.port := rfl

/-! ### The sequencer leaves the port -/

@[simp] theorem startSequencer_port (entered : SeqState) (s : State) :
    (startSequencer entered s).1.port = s.port := by
  simp only [startSequencer, apply_ite Prod.fst, apply_ite State.port, ite_self]

@[simp] theorem seqRunOwner_port (w : Words8) (s : State) : (seqRunOwner w s).1.port = s.port :=
  startSequencer_port _ s

@[simp] theorem seqSingleOwner_port (w : Words8) (s : State) : (seqSingleOwner w s).1.port = s.port :=
  startSequencer_port _ s

@[simp] theorem seqStopOwner_port (w : Words8) (s : State) : (seqStopOwner w s).1.port = s.port := by
  simp only [seqStopOwner, apply_ite State.port, stopSequencer_port, ite_self]

@[simp] theorem seqFaultEvent_port (s : State) : (seqFaultEvent s).port = s.port := by
  simp only [seqFaultEvent, apply_ite State.port, stopSequencer_port, ite_self]

@[simp] theorem dropEntry_port (e : Entry) (c : Course) (rest : List Entry) (s : State) :
    (dropEntry e c rest s).port = s.port := rfl

@[simp] theorem fireEntry_port (e : Entry) (c : Course) (rest : List Entry) (s : State) :
    (fireEntry e c rest s).port = s.port := by
  simp [fireEntry]

@[simp] theorem fireTrail_port (e : Entry) (rest : List Entry) (s : State) :
    (fireTrail e rest s).port = s.port := by
  simp [fireTrail]

@[simp] theorem takeWork_port (e : Entry) (rest : List Entry) (s : State) :
    (takeWork e rest s).port = s.port := by
  simp only [takeWork, apply_ite State.port, dropEntry_port, fireEntry_port, ite_self]

@[simp] theorem endSingle_port (trail : Bool) (s : State) : (endSingle trail s).port = s.port := by
  simp only [endSingle, apply_ite State.port, stopSequencer_port, ite_self]

@[simp] theorem reportEmpty_port (s : State) : (reportEmpty s).port = s.port := by
  simp [reportEmpty]

@[simp] theorem taking_port (s : State) : (taking s).port = s.port := by
  unfold taking
  split
  · rfl
  · simp [apply_ite State.port]

/-! ### The capture and response units leave the port -/

@[simp] theorem offerRecord_port (r : CaptureRecord) (s : State) : (offerRecord r s).port = s.port := by
  unfold offerRecord
  split <;> rfl

@[simp] theorem triggerTemplate_port (n : Fin 8) (t : Time) (s : State) :
    (triggerTemplate n t s).port = s.port := by
  simp only [triggerTemplate]
  split
  · split <;> rfl
  all_goals rfl

@[simp] theorem acceptEdge_port (n : Fin 8) (e : Edge) (s : State) : (acceptEdge n e s).port = s.port := by
  simp [acceptEdge]

@[simp] theorem inputEdge_port (n : Fin 8) (e : Edge) (s : State) : (inputEdge n e s).port = s.port := by
  simp only [inputEdge, apply_ite State.port, acceptEdge_port, onInput_port, ite_self]

@[simp] theorem firstLevel_port (n : Fin 8) (level : Bool) (s : State) :
    (firstLevel n level s).port = s.port := by
  unfold firstLevel
  split <;> rfl

@[simp] theorem responseLoadOwner_port (w : Words8) (s : State) :
    (responseLoadOwner w s).1.port = s.port := by
  unfold responseLoadOwner
  split
  · rfl
  · split <;> rfl

@[simp] theorem responseArmOwner_port (w : Words8) (s : State) :
    (responseArmOwner w s).1.port = s.port := by
  unfold responseArmOwner
  split
  · rfl
  · split <;> rfl

@[simp] theorem responseDisarmOwner_port (w : Words8) (s : State) :
    (responseDisarmOwner w s).1.port = s.port := by
  unfold responseDisarmOwner
  split <;> rfl

@[simp] theorem responseClaim_port (s : State) : (responseClaim s).port = s.port := by
  unfold responseClaim
  split
  · rfl
  · split <;> rfl

@[simp] theorem writeCapConfig_port (n : Fin 8) (v : Word) (s : State) :
    (writeCapConfig n v s).port = s.port := by
  unfold writeCapConfig
  split <;> rfl

@[simp] theorem writeCapLost_port (n : Fin 8) (v : Word) (s : State) :
    (writeCapLost n v s).port = s.port := rfl

/-! ### The report unit leaves the port -/

@[simp] theorem reportWriteStart_port (s : State) : (reportWriteStart s).port = s.port := by
  unfold reportWriteStart
  split
  · rfl
  · split <;> rfl

@[simp] theorem countDelivered_port (s : State) : (countDelivered s).port = s.port := by
  unfold countDelivered
  split <;> rfl

@[simp] theorem coalesceExpiry_port (s : State) : (coalesceExpiry s).port = s.port := by
  unfold coalesceExpiry
  split <;> rfl

@[simp] theorem writeReportCoal_port (v : Word) (s : State) : (writeReportCoal v s).port = s.port := by
  simp only [writeReportCoal, apply_ite State.port, signalReport_port, coalesceExpiry_port, onReport_port,
    ite_self]

@[simp] theorem removeRecord_port (src : Source) (s : State) : (removeRecord src s).port = s.port := by
  cases src <;> rfl

@[simp] theorem deliverRecord_port (src : Source) (s : State) : (deliverRecord src s).port = s.port := by
  simp [deliverRecord]

@[simp] theorem discardWrite_port (s : State) : (discardWrite s).port = s.port := rfl

@[simp] theorem discardEmptiedWrite_port (s : State) : (discardEmptiedWrite s).port = s.port := by
  unfold discardEmptiedWrite
  split <;> rfl

@[simp] theorem failWrite_port (s : State) : (failWrite s).port = s.port := by
  unfold failWrite
  split <;> rfl

@[simp] theorem reportWriteDone_port (s : State) : (reportWriteDone s).port = s.port := by
  unfold reportWriteDone
  split
  · cases s.report.inFlight <;> simp [apply_ite State.port]
  · simp

@[simp] theorem reportWriteError_port (s : State) : (reportWriteError s).port = s.port := by
  unfold reportWriteError
  split
  · cases s.report.inFlight <;> simp [apply_ite State.port]
  · simp

@[simp] theorem writeReportBase_port (v : Word) (s : State) : (writeReportBase v s).port = s.port := rfl

@[simp] theorem writeReportSize_port (v : Word) (s : State) : (writeReportSize v s).port = s.port := rfl

@[simp] theorem writeReportProd_port (v : Word) (s : State) : (writeReportProd v s).port = s.port := rfl

@[simp] theorem writeReportCons_port (v : Word) (s : State) : (writeReportCons v s).port = s.port := rfl

@[simp] theorem writeReportCtrl_port (v : Word) (s : State) : (writeReportCtrl v s).port = s.port := rfl

@[simp] theorem writeReportStatus_port (v : Word) (s : State) :
    (writeReportStatus v s).port = s.port := rfl

/-! ### The admission ring engine leaves the port -/

@[simp] theorem fetchStart_port (s : State) : (fetchStart s).port = s.port := by
  unfold fetchStart
  split <;> rfl

@[simp] theorem discardFetch_port (s : State) : (discardFetch s).port = s.port := rfl

@[simp] theorem discardEmptiedFetch_port (s : State) : (discardEmptiedFetch s).port = s.port := by
  unfold discardEmptiedFetch
  split <;> rfl

@[simp] theorem fetchDone_port (data : Words8) (s : State) : (fetchDone data s).port = s.port := by
  simp [fetchDone, apply_ite State.port]

@[simp] theorem failFetch_port (s : State) : (failFetch s).port = s.port := by
  unfold failFetch
  split <;> rfl

@[simp] theorem fetchError_port (s : State) : (fetchError s).port = s.port := by
  simp [fetchError, apply_ite State.port]

@[simp] theorem rejectDescriptor_port (w : Words8) (r : ResultCode) (s : State) :
    (rejectDescriptor w r s).port = s.port := rfl

@[simp] theorem admitDescriptor_port (e : Entry) (s : State) : (admitDescriptor e s).port = s.port := rfl

@[simp] theorem holdDescriptor_port (s : State) : (holdDescriptor s).port = s.port := rfl

@[simp] theorem claimDescriptor_port (w : Words8) (s : State) : (claimDescriptor w s).port = s.port := by
  unfold claimDescriptor
  split
  · split <;> rfl
  · rfl

@[simp] theorem descriptorClaim_port (s : State) : (descriptorClaim s).port = s.port := by
  unfold descriptorClaim
  split
  · simp
  · rfl

@[simp] theorem claimHeld_port (w : Words8) (s : State) : (claimHeld w s).port = s.port := by
  unfold claimHeld
  split <;> rfl

@[simp] theorem retryClaim_port (s : State) : (retryClaim s).port = s.port := by
  unfold retryClaim
  split
  · simp
  · rfl

@[simp] theorem writeAringBase_port (v : Word) (s : State) : (writeAringBase v s).port = s.port := rfl

@[simp] theorem writeAringSize_port (v : Word) (s : State) : (writeAringSize v s).port = s.port := rfl

@[simp] theorem writeAringProd_port (v : Word) (s : State) : (writeAringProd v s).port = s.port := rfl

@[simp] theorem writeAringCons_port (v : Word) (s : State) : (writeAringCons v s).port = s.port := rfl

@[simp] theorem writeAringCtrl_port (v : Word) (s : State) : (writeAringCtrl v s).port = s.port := rfl

@[simp] theorem writeAringStatus_port (v : Word) (s : State) :
    (writeAringStatus v s).port = s.port := rfl

/-! ### The bus interface, the interrupt unit and the window's own registers leave the port -/

@[simp] theorem storeMasterEnable_port (b : Bool) (s : State) :
    (storeMasterEnable b s).port = s.port := by
  unfold storeMasterEnable
  split <;> rfl

@[simp] theorem burstGrant_port (s : State) : (burstGrant s).port = s.port := by
  unfold burstGrant
  split <;> rfl

@[simp] theorem writeBusStatus_port (v : Word) (s : State) : (writeBusStatus v s).port = s.port := rfl

@[simp] theorem writeIntCause_port (v : Word) (s : State) : (writeIntCause v s).port = s.port := rfl

@[simp] theorem writeIntEnable_port (v : Word) (s : State) : (writeIntEnable v s).port = s.port := rfl

@[simp] theorem writeLateMargin_port (v : Word) (s : State) : (writeLateMargin v s).port = s.port := rfl

@[simp] theorem writeSeqConfig_port (v : Word) (s : State) : (writeSeqConfig v s).port = s.port := rfl

/-! ### Operations that do not clear the overrun flag -/

/-- The operation leaves the overrun flag set where it was set. -/
def KeepsOverrun (f : State → State) : Prop :=
  ∀ s : State, s.port.overrun = true → (f s).port.overrun = true

/-- An operation that leaves the port leaves the overrun flag set. -/
theorem keepsOverrun_of_port {f : State → State} (hf : ∀ s, (f s).port = s.port) : KeepsOverrun f := by
  intro s hs
  rwa [hf s]

/-- A command whose owner leaves the port, with the posting of the answer, leaves the overrun flag set. -/
theorem takeCommand_keepsOverrun {c : Command} {owner : Words8 → State → State × Answer}
    (howner : ∀ w s, (owner w s).1.port = s.port) : KeepsOverrun (takeCommand c owner) := by
  intro s hs
  refine takeCommand_induction (P := fun t => t.port.overrun = true) hs fun w => ?_
  rw [post_overrun, howner]
  exact hs

/-- A write of CMD leaves the overrun flag set. -/
theorem writeCmd_keepsOverrun (v : Word) : KeepsOverrun (writeCmd v) := by
  intro s hs
  rw [writeCmd, portWriteCmd_overrun, hs, Bool.true_or]

/-- A write of CMD_RESULT with bit 25 at zero leaves the overrun flag set (R176). -/
theorem writeCmdResult_keepsOverrun {v : Word} (h : v.getLsbD 25 = false) :
    KeepsOverrun (writeCmdResult v) := by
  intro s hs
  simp only [writeCmdResult, hs, h, Bool.not_false, Bool.and_true]

/-- A write of CONTROL with bit 1 at zero requests no soft reset (R184, R185). -/
theorem writeControl_keepsOverrun {v : Word} (h : v.getLsbD 1 = false) :
    KeepsOverrun (writeControl v) := by
  refine keepsOverrun_of_port fun s => ?_
  rw [writeControl, h]
  exact storeMasterEnable_port _ s

/-- A full-word write of `v` to the register `r` clears the overrun flag: by a soft reset, or by the flag's own
bit at one (R174, R176, R185). -/
def WriteClearsOverrun (r : Reg) (v : Word) : Prop :=
  (r = .control ∧ v.getLsbD 1 = true) ∨ (r = .cmdResult ∧ v.getLsbD 25 = true)

/-- A full-word write of any other register or word leaves the overrun flag set. -/
theorem writeRegister_keepsOverrun {r : Reg} {v : Word} (h : ¬ WriteClearsOverrun r v) :
    KeepsOverrun (writeRegister r v) := by
  cases r with
  | control => exact writeControl_keepsOverrun (by simpa [WriteClearsOverrun] using h)
  | cmdResult => exact writeCmdResult_keepsOverrun (by simpa [WriteClearsOverrun] using h)
  | cmd => exact writeCmd_keepsOverrun v
  | stage n => exact fun s hs => hs
  | _ => exact keepsOverrun_of_port fun s => by simp [writeRegister]

/-- A full-word write at a window offset leaves the overrun flag set, unless it is such a write of the register
there. -/
theorem writeOffset_keepsOverrun {offset : BitVec 10} {v : Word}
    (h : ∀ r, Reg.ofOffset offset = some r → ¬ WriteClearsOverrun r v) :
    KeepsOverrun (writeOffset offset v) := by
  intro s hs
  cases hr : Reg.ofOffset offset with
  | none => simpa [writeOffset, hr] using hs
  | some r =>
    rw [writeOffset_of_mapped hr]
    exact writeRegister_keepsOverrun (h r hr) s hs

/-- A write with byte lanes leaves the overrun flag set, unless it is such a write with all four. -/
theorem writeLanes_keepsOverrun {offset : BitVec 10} {lanes : BitVec 4} {v : Word}
    (h : lanes = 0xF → ∀ r, Reg.ofOffset offset = some r → ¬ WriteClearsOverrun r v) :
    KeepsOverrun (writeLanes offset lanes v) := by
  intro s hs
  by_cases hlanes : lanes = 0xF
  · subst hlanes
    rw [writeLanes_full]
    exact writeOffset_keepsOverrun (h rfl) s hs
  · rwa [writeLanes, if_neg hlanes]

/-! ### Which commands can clear the overrun flag -/

/-- The command, whatever its row's name, is a write that clears the overrun flag, or the power-on reset (R174;
log entry 4). -/
def ClearsOverrun (c : Instr) : Prop :=
  (∃ u : Word, u.getLsbD 25 = true ∧ (c = .cmdResultWrite u ∨ WritesByOffset c .cmdResult u))
    ∨ (∃ u : Word, u.getLsbD 1 = true
        ∧ (c = .softReset u ∨ c = .busMasterEnableWrite u ∨ WritesByOffset c .control u))
    ∨ c = .powerOnReset

/-- A row that writes by offset and writes a register so that the flag is cleared is such a command. -/
theorem clearsOverrun_of_writesByOffset {c : Instr} {r : Reg} {v : Word} (hc : WritesByOffset c r v)
    (h : WriteClearsOverrun r v) : ClearsOverrun c := by
  obtain ⟨rfl, hv⟩ | ⟨rfl, hv⟩ := h
  · exact .inr (.inl ⟨v, hv, .inr (.inr hc)⟩)
  · exact .inl ⟨v, hv, .inr hc⟩

/-- An event at the part that leaves the overrun flag set does so whether RESET_N is asserted or not. -/
theorem overrun_of_live {s t : State} {f : State → State} (hs : s.port.overrun = true)
    (h : live s f = .next t) (hf : KeepsOverrun f) : t.port.overrun = true := by
  obtain rfl := live_eq_next.mp h
  split
  · exact hs
  · exact hf s hs

/-- An event at the part that leaves the port leaves the overrun flag set. -/
theorem overrun_of_live_port {s t : State} {f : State → State} (hs : s.port.overrun = true)
    (h : live s f = .next t) (hf : ∀ s, (f s).port = s.port) : t.port.overrun = true :=
  overrun_of_live hs h (keepsOverrun_of_port hf)

/-- A command taken by an owner that leaves the port leaves the overrun flag set. -/
theorem overrun_of_taken {s t : State} {c : Command} {owner : Words8 → State → State × Answer}
    (hs : s.port.overrun = true) (h : live s (takeCommand c owner) = .next t)
    (howner : ∀ w s, (owner w s).1.port = s.port) : t.port.overrun = true :=
  overrun_of_live hs h (takeCommand_keepsOverrun howner)

/-- An event that goes on while RESET_N is asserted and leaves the port leaves the overrun flag set. -/
theorem overrun_of_next {s t u : State} (hs : s.port.overrun = true)
    (h : (Host.Outcome.next u : Host.Outcome State Fault Refusal) = .next t) (hu : u.port = s.port) :
    t.port.overrun = true := by
  obtain rfl := Host.Outcome.next.inj h
  rwa [hu]

/-- Every command but those of `ClearsOverrun` leaves the overrun flag set (R174). -/
theorem exec_keeps_overrun {c : Instr} {s t : State} (hc : ¬ ClearsOverrun c)
    (hs : s.port.overrun = true) (h : exec c s = .next t) : t.port.overrun = true := by
  cases c with
  | commandIssue v | badCommand v | cmdOverrun v => exact overrun_of_live hs h (writeCmd_keepsOverrun v)
  | cmdResultWrite v =>
    refine overrun_of_live hs h (writeCmdResult_keepsOverrun (Bool.eq_false_of_not_eq_true fun hv => ?_))
    exact hc (.inl ⟨v, hv, .inl rfl⟩)
  | softReset v =>
    refine overrun_of_live hs h (writeControl_keepsOverrun (Bool.eq_false_of_not_eq_true fun hv => ?_))
    exact hc (.inr (.inl ⟨v, hv, .inl rfl⟩))
  | busMasterEnableWrite v =>
    refine overrun_of_live hs h (writeControl_keepsOverrun (Bool.eq_false_of_not_eq_true fun hv => ?_))
    exact hc (.inr (.inl ⟨v, hv, .inr (.inl rfl)⟩))
  | powerOnReset => exact absurd (.inr (.inr rfl)) hc
  | registerWrite offset v =>
    refine overrun_of_live hs h (writeOffset_keepsOverrun fun r hr hv => hc ?_)
    exact clearsOverrun_of_writesByOffset ⟨offset, hr, .inl rfl⟩ hv
  | narrowWrite offset lanes v =>
    refine overrun_of_live hs h (writeLanes_keepsOverrun fun hlanes r hr hv => hc ?_)
    subst hlanes
    exact clearsOverrun_of_writesByOffset ⟨offset, hr, .inr rfl⟩ hv
  | admitCandidate => exact overrun_of_taken hs h admitOwner_port
  | cancelTag => exact overrun_of_taken hs h cancelTagOwner_port
  | cancelLines => exact overrun_of_taken hs h cancelLinesOwner_port
  | flush => exact overrun_of_taken hs h flushOwner_port
  | queryTag => exact overrun_of_taken hs h queryTagOwner_port
  | seqRun => exact overrun_of_taken hs h seqRunOwner_port
  | seqSingle => exact overrun_of_taken hs h seqSingleOwner_port
  | seqStop => exact overrun_of_taken hs h seqStopOwner_port
  | timeSet => exact overrun_of_taken hs h timeSetOwner_port
  | timeStep => exact overrun_of_taken hs h timeStepOwner_port
  | trimSet => exact overrun_of_taken hs h trimSetOwner_port
  | gateOpen => exact overrun_of_taken hs h gateOpenOwner_port
  | gateClose => exact overrun_of_taken hs h gateCloseOwner_port
  | faultClear => exact overrun_of_taken hs h faultClearOwner_port
  | lineWrite => exact overrun_of_taken hs h lineWriteOwner_port
  | responseLoad => exact overrun_of_taken hs h responseLoadOwner_port
  | responseArm => exact overrun_of_taken hs h responseArmOwner_port
  | responseDisarm => exact overrun_of_taken hs h responseDisarmOwner_port
  | resetNDeassertion => exact overrun_of_next hs h rfl
  | timeLoRead => exact overrun_of_next hs h (by split <;> rfl)
  | headDueLoRead => exact overrun_of_next hs h (by split <;> rfl)
  | reportWriteDone => exact overrun_of_next hs h (reportWriteDone_port s)
  | reportWriteError => exact overrun_of_next hs h (reportWriteError_port s)
  | fetchDone data => exact overrun_of_next hs h (fetchDone_port data s)
  | fetchError => exact overrun_of_next hs h (fetchError_port s)
  | burstGrant => exact overrun_of_next hs h (burstGrant_port s)
  | timebaseAdvance | taking | periodStartEvent n | faultLatch | faultNSeenChange asserted
  | faultClaim | seqFaultEvent | inputEdge n edge | firstSynchronisedLevel n level | responseClaim
  | reportWriteStart | coalesceExpiry | fetchStart | descriptorClaim | retryClaim =>
    exact overrun_of_live_port hs h fun s => by simp
  | busStatusWrite v | intCauseWrite v | intEnableWrite v | outPolarityWrite v | outSafeWrite v
  | faultConfigWrite v | capConfigWrite n v | capLostWrite n v | reportCoalWrite v
  | reportBaseWrite v | reportSizeWrite v | reportProdWrite v | reportConsWrite v
  | reportEnable v | reportDisable v | reportStatusWrite v | aringBaseWrite v | aringSizeWrite v
  | aringConsWrite v | aringProdWrite v | aringEnable v | aringDisable v | aringStatusWrite v =>
    exact overrun_of_live_port hs h fun s => by simp

/-- A row that fits its operands clears the overrun flag only as a write of CMD_RESULT with bit 25 at one, as
SOFT_RESET, or as POWER_ON_RESET: the rows that write by offset do not name CMD_RESULT or CONTROL, and
BUS_MASTER_ENABLE_WRITE has bit 1 at zero (R174, R183, R184). -/
theorem ClearsOverrun.of_wf {c : Instr} (hwf : c.wf = true) (h : ClearsOverrun c) :
    (∃ u : Word, u.getLsbD 25 = true ∧ c = .cmdResultWrite u) ∨ (∃ u : Word, c = .softReset u)
      ∨ c = .powerOnReset := by
  have hoffset : ∀ r u, r.hasOwnRow = true → ¬ WritesByOffset c r u := by
    rintro r u hrow ⟨offset, hr, rfl | rfl⟩
    · simp [Instr.wf, hr, hrow] at hwf
    · simp [Instr.wf] at hwf
  obtain ⟨u, hu, hc | hc⟩ | ⟨u, hu, hc | rfl | hc⟩ | hc := h
  · exact .inl ⟨u, hu, hc⟩
  · exact absurd hc (hoffset _ u rfl)
  · exact .inr (.inl ⟨u, hc⟩)
  · simp only [Instr.wf, hu, Bool.not_true, Bool.false_eq_true] at hwf
  · exact absurd hc (hoffset _ u rfl)
  · exact .inr (.inr hc)

/-! ### The writes of CMD and CMD_RESULT, and the resets -/

/-- CMD_OVERRUN taken while the port is BUSY sets the overrun flag, and nothing else changes (R174). -/
theorem exec_cmdOverrun_of_busy {s : State} {b : Issued} (v : Word) (hawake : Awake s)
    (hbuffer : s.port.buffer = some b) :
    exec (.cmdOverrun v) s = .next { s with port := { s.port with overrun := true } } := by
  calc exec (.cmdOverrun v) s
      = live s (writeCmd v) := rfl
    _ = .next (writeCmd v s) := live_of_awake hawake
    _ = .next { s with port := { s.port with overrun := true } } := by
      rw [writeCmd, portWriteCmd_of_busy v hbuffer]

/-- A further overrun changes nothing (R174). -/
theorem exec_cmdOverrun_of_overrun {s : State} {b : Issued} (v : Word) (hawake : Awake s)
    (hbuffer : s.port.buffer = some b) (hs : s.port.overrun = true) :
    exec (.cmdOverrun v) s = .next s := by
  rw [exec_cmdOverrun_of_busy v hawake hbuffer, ← hs]

/-- COMMAND_ISSUE taken while the port is IDLE issues the command it names, with the staging words (R172). -/
theorem exec_commandIssue_of_idle {s : State} {v : Word} {k : Command} (hawake : Awake s)
    (hbuffer : s.port.buffer = none) (hk : k.code = commandCode v) :
    exec (.commandIssue v) s = .next { s with port := { s.port with
      buffer := some { command := k, words := s.port.staging } } } := by
  calc exec (.commandIssue v) s
      = live s (writeCmd v) := rfl
    _ = .next (writeCmd v s) := live_of_awake hawake
    _ = .next { s with port := { s.port with
          buffer := some { command := k, words := s.port.staging } } } := by
      rw [writeCmd, portWriteCmd_of_named hbuffer (hk ▸ ofCode_code k)]

/-- CMD_RESULT_WRITE clears the overrun flag by bit 25 (R176). -/
theorem exec_cmdResultWrite_of_awake {s : State} (u : Word) (hawake : Awake s) :
    exec (.cmdResultWrite u) s =
      .next { s with port := { s.port with overrun := s.port.overrun && !u.getLsbD 25 } } :=
  live_of_awake hawake

/-- SOFT_RESET brings the port to its reset values (R179, R185). -/
theorem port_of_exec_softReset {s t : State} {u : Word} (hawake : Awake s) (hu : u.getLsbD 1 = true)
    (h : exec (.softReset u) s = .next t) : t.port = CommandPort.reset := by
  have hreset : t = writeControl u s := by
    simpa only [hawake, Bool.false_eq_true, if_false] using live_eq_next.mp h
  rw [hreset, writeControl, if_pos hu, softReset_port]

/-- POWER_ON_RESET brings the port to its reset values (R179, R186). -/
theorem port_of_exec_powerOnReset {s t : State} (h : exec .powerOnReset s = .next t) :
    t.port = CommandPort.reset := by
  obtain rfl := Host.Outcome.next.inj h
  exact powerOnReset_port s

/-- Settles O54: a write of CMD looks at the buffer alone, which a posting empties, and the flag is one that
only the commands of `ClearsOverrun` clear. -/
theorem busyPortTakesNoCommand : Obligations.BusyPortTakesNoCommand := by
  intro s v b hawake hbuffer
  refine ⟨exec_cmdOverrun_of_busy v hawake hbuffer, exec_cmdOverrun_of_overrun v hawake hbuffer,
    post_overrun s.port, fun c a k => exec_commandIssue_of_idle hawake (post_buffer s.port c a),
    fun u => exec_cmdResultWrite_of_awake u hawake, fun u t hu h => ?soft, fun t h => ?powerOn,
    fun c t hwf hs h => ?clears⟩
  case soft => rw [port_of_exec_softReset hawake hu h, CommandPort.reset]
  case powerOn => rw [port_of_exec_powerOnReset h, CommandPort.reset]
  case clears =>
    by_cases hc : ClearsOverrun c
    · exact .inr (hc.of_wf hwf)
    · exact .inl (exec_keeps_overrun hc hs h)

end Sys2Proof.Machine
end

section
/-! PROOFS. The identification word (R187; O58). The word is what ID reads wherever RESET_N is deasserted,
whatever else the state holds, so a reset keeps it because the part is awake after it. -/

namespace Sys2Proof.Machine

/-! ### ID at the window -/

/-- The window offset of ID (Table 11-1). -/
theorem ofOffset_id : Reg.ofOffset 0x000 = some .id := by decide

/-- A read of ID shows the identification word (R187). -/
theorem readOffset_id {s : State} (hawake : Awake s) : s.readOffset 0x000 = Config.idWord :=
  readOffset_of_mapped hawake ofOffset_id

/-- The identification word is the family, part and revision codes, in this order from its top (R187, Table
11-2). -/
theorem idWord_eq_append : Config.idWord = 0x2B#8 ++ 0x1608#16 ++ 0x01#8 := by decide

/-- ID is RO: a write of it is ignored (R183, R187). -/
theorem exec_registerWrite_id {s : State} (v : Word) (hawake : Awake s) :
    exec (.registerWrite 0x000 v) s = .next s := by
  calc exec (.registerWrite 0x000 v) s
      = live s (writeOffset 0x000 v) := rfl
    _ = .next (writeOffset 0x000 v s) := live_of_awake hawake
    _ = .next (writeRegister .id v s) := by rw [writeOffset_of_mapped ofOffset_id]
    _ = .next s := rfl

/-! ### The part is awake after a reset -/

/-- A change of the bus-master enable leaves RESET_N as it is, also where it turns the ring engines off. -/
@[simp] theorem storeMasterEnable_resetAsserted (b : Bool) (s : State) :
    (storeMasterEnable b s).resetAsserted = s.resetAsserted := by
  unfold storeMasterEnable
  split
  case isTrue => rw [onAring_resetAsserted, onReport_resetAsserted]
  case isFalse => rfl

/-- A write of CONTROL leaves RESET_N as it is, with or without the soft reset. -/
@[simp] theorem writeControl_resetAsserted (v : Word) (s : State) :
    (writeControl v s).resetAsserted = s.resetAsserted := by
  unfold writeControl
  split
  case isTrue => rw [softReset_resetAsserted, storeMasterEnable_resetAsserted]
  case isFalse => rw [storeMasterEnable_resetAsserted]

/-- SOFT_RESET leaves an awake part awake (R185). -/
theorem awake_of_exec_softReset {s t : State} {v : Word} (hawake : Awake s)
    (h : exec (.softReset v) s = .next t) : Awake t := by
  have hwrite : exec (.softReset v) s = .next (writeControl v s) := live_of_awake hawake
  obtain rfl := Host.Outcome.next.inj (hwrite.symm.trans h)
  rwa [Awake, writeControl_resetAsserted]

/-- RESET_N_DEASSERTION leaves the part awake (R186). -/
theorem awake_of_exec_resetNDeassertion {t u : State} (h : exec .resetNDeassertion t = .next u) :
    Awake u := by
  obtain rfl := Host.Outcome.next.inj h
  rfl

/-- Settles O58: every awake state shows the identification word at ID, and the part is awake after either
reset. -/
theorem identificationWordIsFixed : Obligations.IdentificationWordIsFixed := by
  intro s v hawake
  rw [readOffset_id hawake]
  refine ⟨rfl, ?family, ?part, ?revision, exec_registerWrite_id v hawake,
    fun t hsoft => readOffset_id (awake_of_exec_softReset hawake hsoft),
    fun t u _ hdeassert => readOffset_id (awake_of_exec_resetNDeassertion hdeassert)⟩
  all_goals rw [idWord_eq_append]; decide

end Sys2Proof.Machine
end

section
/-! PROOFS. What each row can touch. A footprint names the parts of the state that the invariants speak of; each
operation stays within its footprint, said once, and over all the rows this gives one frame theorem. Two of the
parts have a weaker sameness that every invariant can bear: outside its footprint the report unit may be offered
notices, and a held admission ring engine may be given a retry claim. -/

namespace Sys2Proof.Machine

/-! ### Footprints -/

/-- The parts of the state an operation may change. -/
structure Footprint where
  integer : Bool := false
  timebase : Bool := false
  entries : Bool := false
  gens : Bool := false
  log : Bool := false
  response : Bool := false
  report : Bool := false
  aring : Bool := false
  traffic : Bool := false
  reset : Bool := false

/-- Every part but RESET_N. -/
def Footprint.all : Footprint :=
  { integer := true, timebase := true, entries := true, gens := true, log := true, response := true
    report := true, aring := true, traffic := true }

/-- The report unit after notices, offered one after another. -/
def OffersOnly (u v : ReportUnit) : Prop := ∃ ns : List Notice, v = ns.foldl ReportUnit.offer u

/-- The engine as it was, or, where it is HELD, with a retry claim (R38, R162). -/
def RetriesOnly (a b : AdmissionRing) : Prop := b = a ∨ (a.state = .held ∧ b = { a with retry := true })

/-- What the bus interface holds of the ring engines' bursts and their enable. -/
def BusInterface.traffic (b : BusInterface) : Bool × Option Word × Option WriteRequest × Option Engine :=
  (b.masterEnable, b.admissionSlot, b.reportSlot, b.onBus)

/-- From `s` to `t` only what the footprint names changes; the queue never does. -/
structure Within (b : Footprint) (s t : State) : Prop where
  pending : t.pending = s.pending
  integer : b.integer = false → t.timebase.integer = s.timebase.integer
  timebase : b.timebase = false → t.timebase = s.timebase
  entries : b.entries = false → t.table.entries = s.table.entries
  gens : b.gens = false → t.lines.gens = s.lines.gens
  log : b.log = false → t.capture.log = s.capture.log
  response : b.response = false → t.response = s.response
  report : b.report = false → OffersOnly s.report t.report
  aring : b.aring = false → RetriesOnly s.aring t.aring
  traffic : b.traffic = false → t.bus.traffic = s.bus.traffic
  reset : b.reset = false → t.resetAsserted = s.resetAsserted

@[simp] theorem OffersOnly.refl (u : ReportUnit) : OffersOnly u u := ⟨[], rfl⟩

theorem OffersOnly.trans {u v w : ReportUnit} (h : OffersOnly u v) (k : OffersOnly v w) : OffersOnly u w := by
  obtain ⟨ns, rfl⟩ := h
  obtain ⟨ms, rfl⟩ := k
  exact ⟨ns ++ ms, List.foldl_append.symm⟩

@[simp] theorem OffersOnly.offer (u : ReportUnit) (n : Notice) : OffersOnly u (u.offer n) := ⟨[n], rfl⟩

/-- What an offer keeps, offers keep. -/
theorem OffersOnly.keeps {P : ReportUnit → Prop} (hP : ∀ u n, P u → P (u.offer n)) {u v : ReportUnit}
    (h : OffersOnly u v) (hu : P u) : P v := by
  obtain ⟨ns, rfl⟩ := h
  induction ns generalizing u with
  | nil => exact hu
  | cons n ns ih => exact ih (hP u n hu)

@[simp] theorem RetriesOnly.refl (a : AdmissionRing) : RetriesOnly a a := .inl rfl

theorem RetriesOnly.trans {a b c : AdmissionRing} (h : RetriesOnly a b) (k : RetriesOnly b c) :
    RetriesOnly a c := by
  obtain rfl | ⟨ha, rfl⟩ := h
  · exact k
  · obtain rfl | ⟨-, rfl⟩ := k
    · exact .inr ⟨ha, rfl⟩
    · exact .inr ⟨ha, rfl⟩

@[simp] theorem Within.refl (b : Footprint) (s : State) : Within b s s := by
  constructor <;> simp

theorem Within.trans {b : Footprint} {s t u : State} (h : Within b s t) (k : Within b t u) : Within b s u where
  pending := k.pending.trans h.pending
  integer hb := (k.integer hb).trans (h.integer hb)
  timebase hb := (k.timebase hb).trans (h.timebase hb)
  entries hb := (k.entries hb).trans (h.entries hb)
  gens hb := (k.gens hb).trans (h.gens hb)
  log hb := (k.log hb).trans (h.log hb)
  response hb := (k.response hb).trans (h.response hb)
  report hb := (h.report hb).trans (k.report hb)
  aring hb := (h.aring hb).trans (k.aring hb)
  traffic hb := (k.traffic hb).trans (h.traffic hb)
  reset hb := (k.reset hb).trans (h.reset hb)

/-- Within every footprint there are only the queue and RESET_N to keep. -/
theorem Within.of_all {s t : State} (h : t.pending = s.pending) (hreset : t.resetAsserted = s.resetAsserted) :
    Within .all s t := by
  constructor <;> simp [h, hreset, Footprint.all]

theorem Within.of_reset {s t : State} (h : t.pending = s.pending) :
    Within { Footprint.all with reset := true } s t := by
  constructor <;> simp [h, Footprint.all]

/-! ### Shared operations -/

variable {b : Footprint} {s : State}

@[simp] theorem raise_within (c : Cause) : Within b s (raise c s) := by constructor <;> simp

@[simp] theorem raiseIf_within (p : Bool) (c : Cause) : Within b s (raiseIf p c s) := by constructor <;> simp

@[simp] theorem offer_within (n : NoticeBody) : Within b s (offer n s) := by constructor <;> simp

@[simp] theorem offerIf_within (p : Bool) (n : NoticeBody) : Within b s (offerIf p n s) := by
  cases p
  · exact .refl b s
  · exact offer_within n

@[simp] theorem offerAll_within (ns : List NoticeBody) : Within b s (offerAll ns s) := by
  induction ns generalizing s with
  | nil => exact .refl b s
  | cons n ns ih => exact (offer_within n).trans ih

@[simp] theorem stopSequencer_within (c : StopCause) : Within b s (stopSequencer c s) := by
  constructor <;> simp [stopSequencer]

@[simp] theorem signalFall_within (before : Nat) : Within b s (signalFall before s) := by
  unfold signalFall
  split
  case isTrue h => constructor <;> simp [RetriesOnly, h.2]
  case isFalse => exact .refl b s

theorem withEntries_within (es : List Entry) (h : b.entries = true) : Within b s (s.withEntries es) := by
  constructor <;> simp [h]

theorem admitEntry_within (e : Entry) (h : b.entries = true) : Within b s (admitEntry e s) := by
  constructor <;> simp [h]

theorem onInput_within (n : Fin 8) (f : InputLine → InputLine) : Within b s (onInput n f s) := by
  constructor <;> simp

theorem onTemplate_within (n : Fin 8) (f : Template → Template) (h : b.response = true) :
    Within b s (onTemplate n f s) := by
  constructor <;> simp [h]

theorem onReport_within (f : ReportUnit → ReportUnit) (h : b.report = true) : Within b s (onReport f s) := by
  constructor <;> simp [h]

theorem onAring_within (f : AdmissionRing → AdmissionRing) (h : b.aring = true) : Within b s (onAring f s) := by
  constructor <;> simp [h]

/-- Another timebase unit. -/
theorem withTimebase_within (x : Timebase) (hi : b.integer = true ∨ x.integer = s.timebase.integer)
    (h : b.timebase = true) : Within b s { s with timebase := x } := by
  constructor <;> simp +contextual [h]
  intro hb
  simpa [hb] using hi

/-- Another line unit. -/
theorem withLines_within (x : LineUnit) (h : b.gens = true ∨ x.gens = s.lines.gens) :
    Within b s { s with lines := x } := by
  constructor <;> simp
  intro hb
  simpa [hb] using h

/-- Another sequencer. -/
theorem withSeq_within (x : Sequencer) : Within b s { s with seq := x } := by constructor <;> simp

/-- Another command port. -/
theorem withPort_within (x : CommandPort) : Within b s { s with port := x } := by constructor <;> simp

/-- Another interrupt unit. -/
theorem withIrq_within (x : InterruptUnit) : Within b s { s with irq := x } := by constructor <;> simp

/-- Another bus interface. -/
theorem withBus_within (x : BusInterface) (h : b.traffic = true ∨ x.traffic = s.bus.traffic) :
    Within b s { s with bus := x } := by
  constructor <;> simp
  intro hb
  simpa [hb] using h

/-- Another response unit. -/
theorem withResponse_within (x : ResponseUnit) (h : b.response = true) :
    Within b s { s with response := x } := by
  constructor <;> simp [h]

/-- Another capture unit. -/
theorem withCapture_within (x : CaptureUnit) (h : b.log = true ∨ x.log = s.capture.log) :
    Within b s { s with capture := x } := by
  constructor <;> simp
  intro hb
  simpa [hb] using h

/-- Another report unit. -/
theorem withReport_within (x : ReportUnit) (h : b.report = true) : Within b s { s with report := x } := by
  constructor <;> simp [h]

/-- Another admission ring engine. -/
theorem withAring_within (x : AdmissionRing) (h : b.aring = true) : Within b s { s with aring := x } := by
  constructor <;> simp [h]

/-- Another level of RESET_N. -/
theorem withReset_within (x : Bool) : Within { reset := true } s { s with resetAsserted := x } := by
  constructor <;> simp

theorem readInReset_within : Within b s (readInReset s) := withBus_within _ (.inr rfl)

theorem readTimeLo_within (h : b.timebase = true) : Within b s (readTimeLo s) :=
  (withTimebase_within _ (.inr (by rfl)) h).trans (withBus_within _ (.inr (by rfl)))

theorem readHeadDueLo_within : Within b s (readHeadDueLo s) := by
  constructor <;> simp
  exact fun _ => rfl

/-! ### The timebase -/

theorem crossEpoch_within (old : Time) (h : b.timebase = true) : Within b s (crossEpoch old s) := by
  unfold crossEpoch
  split
  · exact (withTimebase_within _ (.inr (by rfl)) h).trans (offer_within _)
  · exact .refl b s

theorem holdTrim_within (old : Time) (h : b.timebase = true) : Within b s (holdTrim old s) := by
  unfold holdTrim
  split
  · constructor <;> simp [h]
  · exact .refl b s

theorem placeInteger_within (v : Nat) (f : BitVec 24) (hi : b.integer = true) (h : b.timebase = true) :
    Within b s (placeInteger v f s) := by
  constructor <;> simp [h, hi]

theorem advance_within (s : State) : Within { integer := true, timebase := true } s (advance s) := by
  unfold advance
  split
  · exact .refl _ s
  · exact (withTimebase_within _ (.inl rfl) rfl).trans
      ((placeInteger_within _ _ rfl rfl).trans (crossEpoch_within _ rfl))

theorem timeStepOwner_within (w : Words8) (s : State) :
    Within { integer := true, timebase := true, gens := true } s (timeStepOwner w s).1 := by
  simp only [timeStepOwner]
  split
  · exact .refl _ s
  · split
    · exact .refl _ s
    · exact (placeInteger_within _ _ rfl rfl).trans ((holdTrim_within _ rfl).trans
        ((crossEpoch_within _ rfl).trans (withLines_within _ (.inl rfl))))

theorem timeSetOwner_within (w : Words8) (s : State) :
    Within { integer := true, timebase := true } s (timeSetOwner w s).1 := by
  simp only [timeSetOwner, apply_ite Prod.fst]
  split
  · exact .refl _ s
  · split
    · exact .refl _ s
    · split
      · exact .refl _ s
      · split
        · exact .refl _ s
        · split
          · exact .refl _ s
          · exact placeInteger_within _ _ rfl rfl

theorem trimSetOwner_within (w : Words8) (s : State) :
    Within { timebase := true } s (trimSetOwner w s).1 := by
  unfold trimSetOwner
  split
  · exact withTimebase_within _ (.inr rfl) rfl
  · exact .refl _ s

/-! ### The table controller -/

theorem admitOwner_within (w : Words8) (s : State) : Within { entries := true } s (admitOwner w s).1 := by
  unfold admitOwner
  split
  · exact .refl _ s
  · exact admitEntry_within _ rfl

theorem removeEntries_within (keep : Entry → Bool) (s : State) :
    Within { entries := true } s (removeEntries keep s).1 :=
  (withEntries_within _ rfl).trans (signalFall_within _)

theorem cancelLinesOwner_within (w : Words8) (s : State) :
    Within { entries := true } s (cancelLinesOwner w s).1 := by
  simp only [cancelLinesOwner]
  split
  · exact .refl _ s
  · exact (withEntries_within _ rfl).trans (signalFall_within _)

theorem queryTagOwner_within (w : Words8) (s : State) : Within {} s (queryTagOwner w s).1 := by
  constructor <;> simp [queryTagOwner]

theorem faultClaim_within (s : State) : Within { entries := true } s (faultClaim s) := by
  unfold faultClaim
  split
  · exact .refl _ s
  · exact (withLines_within _ (.inr (by rfl))).trans
      ((withEntries_within _ rfl).trans (signalFall_within _))

/-! ### The line unit -/

theorem periodStart_within (n : Fin 16) (s : State) : Within { gens := true } s (periodStart n s) := by
  simp only [periodStart]
  split
  · split
    · exact (withLines_within _ (.inl rfl)).trans (offer_within _)
    · exact withLines_within _ (.inl rfl)
  · exact .refl _ s

theorem sampleFaultN_within (asserted : Bool) (s : State) :
    Within { gens := true } s (sampleFaultN asserted s) := by
  unfold sampleFaultN
  split
  · exact (withLines_within _ (.inl rfl)).trans (raise_within _)
  · exact withLines_within _ (.inl rfl)

theorem gateOpenOwner_within (w : Words8) (s : State) : Within {} s (gateOpenOwner w s).1 := by
  unfold gateOpenOwner
  split
  · exact .refl _ s
  · exact withLines_within _ (.inr rfl)

theorem gateCloseOwner_within (w : Words8) (s : State) : Within {} s (gateCloseOwner w s).1 :=
  withLines_within _ (.inr rfl)

theorem faultClearOwner_within (w : Words8) (s : State) : Within {} s (faultClearOwner w s).1 := by
  unfold faultClearOwner
  split
  · exact .refl _ s
  · exact withLines_within _ (.inr rfl)

theorem lineWriteOwner_within (w : Words8) (s : State) : Within {} s (lineWriteOwner w s).1 := by
  simp only [lineWriteOwner]
  split
  · exact .refl _ s
  · exact withLines_within _ (.inr rfl)

/-! ### The sequencer -/

theorem startSequencer_within (entered : SeqState) (s : State) :
    Within {} s (startSequencer entered s).1 := by
  unfold startSequencer
  split
  · exact .refl _ s
  · split
    · exact .refl _ s
    · exact withSeq_within _

theorem seqStopOwner_within (w : Words8) (s : State) : Within {} s (seqStopOwner w s).1 := by
  unfold seqStopOwner
  split
  · exact .refl _ s
  · exact stopSequencer_within _

theorem seqFaultEvent_within (s : State) : Within {} s (seqFaultEvent s) := by
  unfold seqFaultEvent
  split
  · exact .refl _ s
  · split
    · exact withLines_within _ (.inr rfl)
    · exact (withLines_within _ (.inr (by rfl))).trans (stopSequencer_within _)

theorem dropEntry_within (e : Entry) (c : Course) (rest : List Entry) (h : b.entries = true) :
    Within b s (dropEntry e c rest s) :=
  (withEntries_within _ h).trans ((raise_within _).trans (offer_within _))

theorem fireEntry_within (e : Entry) (c : Course) (rest : List Entry) (h : b.entries = true)
    (hg : b.gens = true) : Within b s (fireEntry e c rest s) :=
  (withLines_within _ (.inl hg)).trans ((withEntries_within _ h).trans
    ((offerAll_within _).trans ((raiseIf_within _ _).trans (offerIf_within _ _))))

theorem fireTrail_within (e : Entry) (rest : List Entry) (h : b.entries = true) (hg : b.gens = true) :
    Within b s (fireTrail e rest s) :=
  (withLines_within _ (.inl hg)).trans ((withEntries_within _ h).trans (offerIf_within _ _))

theorem endSingle_within (trail : Bool) : Within b s (endSingle trail s) := by
  unfold endSingle
  split
  · exact stopSequencer_within _
  · exact .refl b s

theorem taking_within (s : State) : Within { entries := true, gens := true } s (taking s) := by
  unfold taking
  split
  · exact .refl _ s
  · next e rest _ =>
    have htaken : Within { entries := true, gens := true } s
        (if e.isTrail then fireTrail e rest s else takeWork e rest s) := by
      simp only [takeWork]
      split
      · exact fireTrail_within e rest rfl rfl
      · split
        · exact dropEntry_within _ _ _ rfl
        · exact fireEntry_within _ _ _ rfl rfl
    exact htaken.trans ((offerIf_within _ _).trans ((endSingle_within _).trans (signalFall_within _)))

/-! ### The capture and response units -/

theorem offerRecord_within (r : CaptureRecord) (h : b.log = true) : Within b s (offerRecord r s) := by
  unfold offerRecord
  split
  · constructor <;> simp [h]
  · exact (onInput_within _ _).trans (raise_within _)

theorem triggerTemplate_within (n : Fin 8) (x : Time) (h : b.response = true) :
    Within b s (triggerTemplate n x s) := by
  simp only [triggerTemplate]
  split
  · split <;> constructor <;> simp [h]
  all_goals exact .refl b s

theorem inputEdge_within (n : Fin 8) (e : Edge) (s : State) :
    Within { log := true, response := true } s (inputEdge n e s) := by
  simp only [inputEdge]
  split
  · split
    · split
      · exact (onInput_within _ _).trans (onInput_within _ _)
      · exact (onInput_within _ _).trans ((onInput_within _ _).trans
          ((offerRecord_within _ rfl).trans (triggerTemplate_within _ _ rfl)))
    · exact onInput_within _ _
  · exact .refl _ s

theorem firstLevel_within (n : Fin 8) (level : Bool) (s : State) : Within {} s (firstLevel n level s) := by
  unfold firstLevel
  split
  · exact onInput_within _ _
  · exact .refl _ s

theorem responseLoadOwner_within (w : Words8) (s : State) :
    Within { response := true } s (responseLoadOwner w s).1 := by
  unfold responseLoadOwner
  split
  · exact .refl _ s
  · split
    · exact .refl _ s
    · exact withResponse_within _ rfl

theorem responseArmOwner_within (w : Words8) (s : State) :
    Within { response := true } s (responseArmOwner w s).1 := by
  unfold responseArmOwner
  split
  · exact .refl _ s
  · split
    · exact .refl _ s
    · exact withResponse_within _ rfl

theorem responseDisarmOwner_within (w : Words8) (s : State) :
    Within { response := true } s (responseDisarmOwner w s).1 := by
  unfold responseDisarmOwner
  split
  · exact .refl _ s
  · exact withResponse_within _ rfl

theorem responseClaim_within (s : State) :
    Within { entries := true, response := true } s (responseClaim s) := by
  unfold responseClaim
  split
  · exact .refl _ s
  · have htaken : ∀ claims, Within { entries := true, response := true } s
        { s with response := { s.response with claims := claims } } := fun claims => by
      constructor <;> simp
    split
    · exact (htaken _).trans ((admitEntry_within _ rfl).trans (onTemplate_within _ _ rfl))
    · exact (htaken _).trans ((onTemplate_within _ _ rfl).trans (offer_within _))

theorem writeCapConfig_within (n : Fin 8) (v : Word) (s : State) : Within {} s (writeCapConfig n v s) := by
  unfold writeCapConfig
  split
  · exact .refl _ s
  · exact onInput_within _ _

/-! ### The report unit -/

theorem reportWriteStart_within (s : State) :
    Within { report := true, traffic := true } s (reportWriteStart s) := by
  unfold reportWriteStart
  split
  · exact .refl _ s
  · split
    · constructor <;> simp
    · exact .refl _ s

theorem signalReport_within (h : b.report = true) : Within b s (signalReport s) :=
  (onReport_within _ h).trans (raise_within _)

theorem coalesceExpiry_within (h : b.report = true) : Within b s (coalesceExpiry s) := by
  unfold coalesceExpiry
  split
  · exact signalReport_within h
  · exact .refl b s

theorem writeReportCoal_within (v : Word) (s : State) : Within { report := true } s (writeReportCoal v s) := by
  simp only [writeReportCoal]
  split
  · exact (onReport_within _ rfl).trans (signalReport_within rfl)
  · exact (onReport_within _ rfl).trans (coalesceExpiry_within rfl)

theorem deliverRecord_within (src : Source) (h : b.report = true) (hl : b.log = true) :
    Within b s (deliverRecord src s) := by
  have hremove : Within b s (removeRecord src s) := by
    cases src with
    | notice => exact onReport_within _ h
    | capture => constructor <;> simp [removeRecord, hl]
  have hcount : ∀ u : State, Within b u (countDelivered u) := fun u => by
    unfold countDelivered
    split
    · exact (onReport_within _ h).trans (signalReport_within h)
    · exact onReport_within _ h
  exact hremove.trans ((onReport_within _ h).trans ((hcount _).trans (onReport_within _ h)))

theorem discardEmptiedWrite_within (h : b.report = true) : Within b s (discardEmptiedWrite s) := by
  unfold discardEmptiedWrite
  split
  · exact onReport_within _ h
  · exact .refl b s

theorem releaseReportSlot_within (h : b.traffic = true) : Within b s (releaseReportSlot s) :=
  withBus_within _ (.inl h)

theorem failWrite_within (h : b.report = true) : Within b s (failWrite s) := by
  unfold failWrite
  split
  · exact (onReport_within _ h).trans (onReport_within _ h)
  · exact (onReport_within _ h).trans ((onReport_within _ h).trans
      ((raise_within _).trans (withIrq_within _)))

theorem reportWriteDone_within (s : State) :
    Within { report := true, log := true, traffic := true } s (reportWriteDone s) := by
  unfold reportWriteDone
  split
  · refine (releaseReportSlot_within rfl).trans ?_
    split
    · exact onReport_within _ rfl
    · split
      · exact deliverRecord_within _ rfl rfl
      · exact .refl _ _
  · exact discardEmptiedWrite_within rfl

theorem reportWriteError_within (s : State) :
    Within { report := true, traffic := true } s (reportWriteError s) := by
  unfold reportWriteError
  split
  · refine (releaseReportSlot_within rfl).trans ?_
    split
    · exact onReport_within _ rfl
    · split
      · exact failWrite_within rfl
      · exact .refl _ _
  · exact discardEmptiedWrite_within rfl

/-! ### The admission ring engine -/

theorem fetchStart_within (s : State) : Within { aring := true, traffic := true } s (fetchStart s) := by
  unfold fetchStart
  split
  · constructor <;> simp
  · exact .refl _ s

theorem discardEmptiedFetch_within (h : b.aring = true) : Within b s (discardEmptiedFetch s) := by
  unfold discardEmptiedFetch
  split
  · exact onAring_within _ h
  · exact .refl b s

theorem releaseAdmissionSlot_within (h : b.traffic = true) : Within b s (releaseAdmissionSlot s) :=
  withBus_within _ (.inl h)

theorem fetchDone_within (data : Words8) (s : State) :
    Within { aring := true, traffic := true } s (fetchDone data s) := by
  unfold fetchDone
  split
  · refine (releaseAdmissionSlot_within rfl).trans ?_
    split
    · exact onAring_within _ rfl
    · split
      · exact onAring_within _ rfl
      · exact .refl _ _
  · exact discardEmptiedFetch_within rfl

theorem failFetch_within (h : b.aring = true) : Within b s (failFetch s) := by
  unfold failFetch
  split
  · exact onAring_within _ h
  · exact (onAring_within _ h).trans ((raise_within _).trans (withIrq_within _))

theorem fetchError_within (s : State) : Within { aring := true, traffic := true } s (fetchError s) := by
  unfold fetchError
  split
  · refine (releaseAdmissionSlot_within rfl).trans ?_
    split
    · exact onAring_within _ rfl
    · split
      · exact failFetch_within rfl
      · exact .refl _ _
  · exact discardEmptiedFetch_within rfl

theorem admitDescriptor_within (e : Entry) (h : b.entries = true) (ha : b.aring = true) :
    Within b s (admitDescriptor e s) :=
  (admitEntry_within e h).trans (onAring_within _ ha)

theorem rejectDescriptor_within (w : Words8) (r : ResultCode) (ha : b.aring = true) :
    Within b s (rejectDescriptor w r s) :=
  (offer_within _).trans ((raise_within _).trans (onAring_within _ ha))

theorem holdDescriptor_within (ha : b.aring = true) : Within b s (holdDescriptor s) :=
  (onAring_within _ ha).trans (raise_within _)

theorem descriptorClaim_within (s : State) :
    Within { entries := true, aring := true } s (descriptorClaim s) := by
  unfold descriptorClaim claimDescriptor
  split
  · split
    · split
      · exact admitDescriptor_within _ rfl rfl
      · exact holdDescriptor_within rfl
      · exact rejectDescriptor_within _ _ rfl
    · exact onAring_within _ rfl
  · exact .refl _ s

theorem retryClaim_within (s : State) : Within { entries := true, aring := true } s (retryClaim s) := by
  unfold retryClaim claimHeld
  split
  · split
    · exact admitDescriptor_within _ rfl rfl
    · exact onAring_within _ rfl
    · exact rejectDescriptor_within _ _ rfl
  · exact .refl _ s

/-! ### Register writes -/

theorem writeControl_pending (v : Word) (s : State) : (writeControl v s).pending = s.pending := by
  have hstored : (storeMasterEnable (v.getLsbD 0) s).pending = s.pending := by
    unfold storeMasterEnable
    split <;> rfl
  unfold writeControl
  split
  · exact hstored
  · exact hstored

/-- What a full-word write of a register may change. -/
def registerFootprint : Reg → Footprint
  | .control => .all
  | .lateMargin => { timebase := true }
  | .reportBase | .reportSize | .reportProd | .reportCons | .reportCtrl | .reportStatus | .reportCoal =>
    { report := true }
  | .aringBase | .aringSize | .aringProd | .aringCons | .aringCtrl | .aringStatus => { aring := true }
  | _ => {}

theorem writeRegister_within (r : Reg) (v : Word) (s : State) :
    Within (registerFootprint r) s (writeRegister r v s) := by
  cases r with
  | control => exact .of_all (writeControl_pending v s) (writeControl_resetAsserted v s)
  | busStatus => exact withBus_within _ (.inr rfl)
  | intCause | intEnable => exact withIrq_within _
  | stage | cmd | cmdResult => exact withPort_within _
  | lateMargin => exact withTimebase_within _ (.inr rfl) rfl
  | seqConfig => exact withSeq_within _
  | outPolarity | outSafe | faultConfig => exact withLines_within _ (.inr rfl)
  | capConfig n => exact writeCapConfig_within n v s
  | capLost n => exact withCapture_within _ (.inr rfl)
  | reportCoal => exact writeReportCoal_within v s
  | reportBase | reportSize | reportProd | reportCons | reportCtrl | reportStatus =>
    exact withReport_within _ rfl
  | aringBase | aringSize | aringProd | aringCons | aringCtrl | aringStatus =>
    exact withAring_within _ rfl
  | _ => exact .refl _ s

/-- The full-word register write that a row is, by its own name or by offset (log entry 4). -/
def rowWrite : Instr → Option (Reg × Word)
  | .softReset v | .busMasterEnableWrite v => some (.control, v)
  | .busStatusWrite v => some (.busStatus, v)
  | .intCauseWrite v => some (.intCause, v)
  | .intEnableWrite v => some (.intEnable, v)
  | .commandIssue v | .badCommand v | .cmdOverrun v => some (.cmd, v)
  | .cmdResultWrite v => some (.cmdResult, v)
  | .outPolarityWrite v => some (.outPolarity, v)
  | .outSafeWrite v => some (.outSafe, v)
  | .faultConfigWrite v => some (.faultConfig, v)
  | .capConfigWrite n v => some (.capConfig n, v)
  | .capLostWrite n v => some (.capLost n, v)
  | .reportCoalWrite v => some (.reportCoal, v)
  | .reportBaseWrite v => some (.reportBase, v)
  | .reportSizeWrite v => some (.reportSize, v)
  | .reportProdWrite v => some (.reportProd, v)
  | .reportConsWrite v => some (.reportCons, v)
  | .reportEnable v | .reportDisable v => some (.reportCtrl, v)
  | .reportStatusWrite v => some (.reportStatus, v)
  | .aringBaseWrite v => some (.aringBase, v)
  | .aringSizeWrite v => some (.aringSize, v)
  | .aringConsWrite v => some (.aringCons, v)
  | .aringProdWrite v => some (.aringProd, v)
  | .aringEnable v | .aringDisable v => some (.aringCtrl, v)
  | .aringStatusWrite v => some (.aringStatus, v)
  | .registerWrite offset v => (Reg.ofOffset offset).map fun r => (r, v)
  | .narrowWrite offset lanes v => if lanes = 0xF then (Reg.ofOffset offset).map fun r => (r, v) else none
  | _ => none

/-- A row that is a full-word register write does what the write does (R183; log entry 4). -/
theorem exec_of_writes {c : Instr} {r : Reg} {v : Word} (h : rowWrite c = some (r, v)) (s : State) :
    exec c s = live s (writeRegister r v) := by
  have hoffset : ∀ offset u, (Reg.ofOffset offset).map (fun r => (r, u)) = some (r, v) →
      live s (writeOffset offset u) = live s (writeRegister r v) := fun offset u hr => by
    obtain ⟨r', hr', heq⟩ := Option.map_eq_some_iff.mp hr
    obtain ⟨rfl, rfl⟩ := Prod.mk.inj heq
    exact congrArg (live s) (funext fun t => writeOffset_of_mapped hr' u t)
  cases c with
  | registerWrite offset u => exact hoffset offset u h
  | narrowWrite offset lanes u =>
    by_cases hl : lanes = 0xF
    · subst hl
      have hfull : writeLanes offset 0xF u = writeOffset offset u :=
        funext fun t => writeLanes_full offset u t
      rw [show exec (.narrowWrite offset 0xF u) s = live s (writeLanes offset 0xF u) from rfl, hfull]
      exact hoffset offset u h
    · rw [rowWrite, if_neg hl] at h
      cases h
  | softReset u | busMasterEnableWrite u | busStatusWrite u | intCauseWrite u | intEnableWrite u
  | commandIssue u | badCommand u | cmdOverrun u | cmdResultWrite u | outPolarityWrite u | outSafeWrite u
  | faultConfigWrite u | capConfigWrite n u | capLostWrite n u | reportCoalWrite u | reportBaseWrite u
  | reportSizeWrite u | reportProdWrite u | reportConsWrite u | reportEnable u | reportDisable u
  | reportStatusWrite u | aringBaseWrite u | aringSizeWrite u | aringConsWrite u | aringProdWrite u
  | aringEnable u | aringDisable u | aringStatusWrite u =>
    obtain ⟨rfl, rfl⟩ := Prod.mk.inj (Option.some.inj h)
    rfl
  | _ => cases h

/-! ### Rows -/

/-- What a row that writes no register may change. -/
def eventFootprint : Instr → Footprint
  | .powerOnReset => { Footprint.all with reset := true }
  | .resetNDeassertion => { reset := true }
  | .timebaseAdvance | .timeSet => { integer := true, timebase := true }
  | .timeStep => { integer := true, timebase := true, gens := true }
  | .trimSet | .timeLoRead => { timebase := true }
  | .admitCandidate | .cancelTag | .cancelLines | .flush | .faultClaim => { entries := true }
  | .taking => { entries := true, gens := true }
  | .periodStartEvent _ | .faultLatch | .faultNSeenChange _ => { gens := true }
  | .inputEdge _ _ => { log := true, response := true }
  | .responseLoad | .responseArm | .responseDisarm => { response := true }
  | .responseClaim => { entries := true, response := true }
  | .reportWriteStart | .reportWriteError => { report := true, traffic := true }
  | .reportWriteDone => { report := true, log := true, traffic := true }
  | .coalesceExpiry => { report := true }
  | .fetchStart | .fetchDone _ | .fetchError => { aring := true, traffic := true }
  | .descriptorClaim | .retryClaim => { entries := true, aring := true }
  | .burstGrant => { traffic := true }
  | _ => {}

/-- What a row may change. -/
def rowFootprint (c : Instr) : Footprint :=
  match rowWrite c with
  | some (r, _) => registerFootprint r
  | none => eventFootprint c

theorem within_of_live {b : Footprint} {s t : State} {f : State → State} (h : live s f = .next t)
    (hf : Within b s (f s)) : Within b s t := by
  obtain rfl := live_eq_next.mp h
  split
  · exact .refl b s
  · exact hf

theorem within_of_taken {b : Footprint} {s t : State} {c : Command} {owner : Words8 → State → State × Answer}
    (h : live s (takeCommand c owner) = .next t) (howner : ∀ w s, Within b s (owner w s).1) : Within b s t :=
  within_of_live h (takeCommand_induction (P := Within b s) (.refl b s)
    fun w => (howner w s).trans (withPort_within _))

theorem within_of_next {b : Footprint} {s t u : State}
    (h : (Host.Outcome.next u : Host.Outcome State Fault Refusal) = .next t) (hu : Within b s u) :
    Within b s t := by
  obtain rfl := Host.Outcome.next.inj h
  exact hu

/-- Every row stays within its footprint. -/
theorem exec_within {c : Instr} {s t : State} (h : exec c s = .next t) : Within (rowFootprint c) s t := by
  cases hw : rowWrite c with
  | some rv =>
    obtain ⟨r, v⟩ := rv
    rw [exec_of_writes hw] at h
    simp only [rowFootprint, hw]
    exact within_of_live h (writeRegister_within r v s)
  | none =>
    simp only [rowFootprint, hw]
    cases c with
    | powerOnReset => exact within_of_next (u := powerOnReset s) h (.of_reset (powerOnReset_pending s))
    | resetNDeassertion => exact within_of_next h (withReset_within false)
    | registerWrite offset v =>
      have hr : Reg.ofOffset offset = none := Option.map_eq_none_iff.mp hw
      refine within_of_live h ?_
      rw [writeOffset, hr]
      exact .refl _ s
    | narrowWrite offset lanes v =>
      refine within_of_live h ?_
      unfold writeLanes
      split
      · next hl =>
        have hr : Reg.ofOffset offset = none := by simpa [rowWrite, hl] using hw
        rw [writeOffset, hr]
        exact .refl _ s
      · exact withBus_within _ (.inr rfl)
    | timeLoRead =>
      refine within_of_next h ?_
      split
      · exact readInReset_within
      · exact readTimeLo_within rfl
    | headDueLoRead =>
      refine within_of_next h ?_
      split
      · exact readInReset_within
      · exact readHeadDueLo_within
    | timebaseAdvance => exact within_of_live h (advance_within s)
    | timeStep => exact within_of_taken h timeStepOwner_within
    | timeSet => exact within_of_taken h timeSetOwner_within
    | trimSet => exact within_of_taken h trimSetOwner_within
    | admitCandidate => exact within_of_taken h admitOwner_within
    | cancelTag => exact within_of_taken h fun w s => removeEntries_within _ s
    | cancelLines => exact within_of_taken h cancelLinesOwner_within
    | flush => exact within_of_taken h fun w s => removeEntries_within _ s
    | queryTag => exact within_of_taken h queryTagOwner_within
    | seqRun => exact within_of_taken h fun w s => startSequencer_within _ s
    | seqSingle => exact within_of_taken h fun w s => startSequencer_within _ s
    | seqStop => exact within_of_taken h seqStopOwner_within
    | gateOpen => exact within_of_taken h gateOpenOwner_within
    | gateClose => exact within_of_taken h gateCloseOwner_within
    | faultClear => exact within_of_taken h faultClearOwner_within
    | lineWrite => exact within_of_taken h lineWriteOwner_within
    | responseLoad => exact within_of_taken h responseLoadOwner_within
    | responseArm => exact within_of_taken h responseArmOwner_within
    | responseDisarm => exact within_of_taken h responseDisarmOwner_within
    | taking => exact within_of_live h (taking_within s)
    | periodStartEvent n => exact within_of_live h (periodStart_within n s)
    | faultLatch => exact within_of_live h (sampleFaultN_within true s)
    | faultNSeenChange asserted => exact within_of_live h (sampleFaultN_within asserted s)
    | faultClaim => exact within_of_live h (faultClaim_within s)
    | seqFaultEvent => exact within_of_live h (seqFaultEvent_within s)
    | inputEdge n e => exact within_of_live h (inputEdge_within n e s)
    | firstSynchronisedLevel n level => exact within_of_live h (firstLevel_within n level s)
    | responseClaim => exact within_of_live h (responseClaim_within s)
    | reportWriteStart => exact within_of_live h (reportWriteStart_within s)
    | reportWriteDone => exact within_of_next h (reportWriteDone_within s)
    | reportWriteError => exact within_of_next h (reportWriteError_within s)
    | coalesceExpiry => exact within_of_live h (coalesceExpiry_within rfl)
    | fetchStart => exact within_of_live h (fetchStart_within s)
    | fetchDone data => exact within_of_next h (fetchDone_within data s)
    | fetchError => exact within_of_next h (fetchError_within s)
    | descriptorClaim => exact within_of_live h (descriptorClaim_within s)
    | retryClaim => exact within_of_live h (retryClaim_within s)
    | burstGrant =>
      refine within_of_next h ?_
      unfold burstGrant
      split
      · exact .refl _ s
      · exact withBus_within _ (.inl rfl)
    | _ => cases hw

/-- Every row is answered with a next state. -/
theorem exec_answered (c : Instr) (s : State) : ∃ t, exec c s = .next t := by
  cases c <;> exact ⟨_, rfl⟩

/-- Settles O2: no arm of the dispatch refuses or faults, and the queue is in no footprint. -/
theorem everyCommandIsAnswered : Obligations.EveryCommandIsAnswered := by
  intro c s
  obtain ⟨t, h⟩ := exec_answered c s
  exact ⟨t, h, (exec_within h).pending⟩

/-- Settles O1: the two equations of the step. -/
theorem stepTakesFrontCommand : Obligations.StepTakesFrontCommand := by
  refine ⟨fun c rest s => rfl, fun s hempty => ?_⟩
  rw [step, hempty]

/-! ### Invariants of the step -/

/-- A property that says nothing of the queue and that every row keeps, every step keeps. -/
theorem step_keeps {P : State → Prop} (hqueue : ∀ s q, P s → P { s with pending := q })
    (hrow : ∀ c s t, P s → exec c s = .next t → P t) {s t : State} (hs : P s) (h : step s = .next t) :
    P t := by
  unfold step at h
  split at h
  · obtain rfl := Host.Outcome.next.inj h
    exact hs
  · exact hrow _ _ t (hqueue s _ hs) h

/-- What an operation keeps, the event that performs it keeps. -/
theorem keeps_of_live {P : State → Prop} {s t : State} {f : State → State} (h : live s f = .next t) (hs : P s)
    (hf : P (f s)) : P t := by
  obtain rfl := live_eq_next.mp h
  split
  · exact hs
  · exact hf

/-- What an owner keeps, and that says nothing of the command port, the taken command keeps. -/
theorem keeps_of_taken {P : State → Prop} {s t : State} {c : Command}
    {owner : Words8 → State → State × Answer} (h : live s (takeCommand c owner) = .next t)
    (hport : ∀ s x, P s → P { s with port := x }) (hs : P s) (howner : ∀ w, P (owner w s).1) : P t :=
  keeps_of_live h hs (takeCommand_induction (P := P) hs fun w => hport _ _ (howner w))

end Sys2Proof.Machine
end

section
/-! PROOFS. What one taking leaves (R45, R65 to R79). A taking names an entry, fires or drops it, and ends with
TABLE_EMPTY, SEQ_STOPPED and the occupancy-fall signal where they are due. Raising a cause and offering a notice
commute, so the end of a taking is said once for every entry taken. -/

namespace Sys2Proof.Machine

/-! ### Notices and causes -/

/-- An offer, with the interrupt unit as the statements write it (R131, R133, R135). -/
theorem offer_eq (n : NoticeBody) (s : State) :
    offer n s =
      { s with
        report := s.report.offer { time := s.timebase.integer, body := n }
        irq := s.irq.setIf (s.report.notices.length ≥ 32) .noticeLoss } := by
  by_cases h : s.report.notices.length < 32
  · have hroom : s.report.hasRoom = true := decide_eq_true h
    simp [offer, hroom, InterruptUnit.setIf, Nat.not_le.mpr h]
  · have hroom : s.report.hasRoom = false := decide_eq_false h
    simp [offer, hroom, InterruptUnit.setIf, Nat.not_lt.mp h, InterruptUnit.set]

/-- Causes are set in any order. -/
theorem set_comm (u : InterruptUnit) (a b : Cause) : (u.set a).set b = (u.set b).set a := by
  simp only [InterruptUnit.set, BitVec.or_assoc, BitVec.or_comm a.bit]

theorem offer_raise (n : NoticeBody) (c : Cause) (s : State) : offer n (raise c s) = raise c (offer n s) := by
  cases h : s.report.hasRoom
  · simp [offer, raise, h, set_comm s.irq c]
  · simp [offer, raise, h]

theorem offerAll_raise (ns : List NoticeBody) (c : Cause) (s : State) :
    offerAll ns (raise c s) = raise c (offerAll ns s) := by
  induction ns generalizing s with
  | nil => rfl
  | cons n ns ih => rw [offerAll, offer_raise, ih, offerAll]

theorem offerAll_raiseIf (ns : List NoticeBody) (p : Bool) (c : Cause) (s : State) :
    offerAll ns (raiseIf p c s) = raiseIf p c (offerAll ns s) := by
  cases p
  · rfl
  · exact offerAll_raise ns c s

theorem offerAll_append (ns ms : List NoticeBody) (s : State) :
    offerAll (ns ++ ms) s = offerAll ms (offerAll ns s) := by
  induction ns generalizing s with
  | nil => rfl
  | cons n ns ih => exact ih (offer n s)

theorem offerIf_eq_offerAll (p : Bool) (n : NoticeBody) (s : State) :
    offerIf p n s = offerAll (if p then [n] else []) s := by
  cases p <;> rfl

/-- What notices offered leave of the report unit and the interrupt unit depends on these two and on the
integer alone. -/
theorem offerAll_congr {s t : State} (hi : t.timebase.integer = s.timebase.integer)
    (hr : t.report = s.report) (hq : t.irq = s.irq) (ns : List NoticeBody) :
    (offerAll ns t).report = (offerAll ns s).report ∧ (offerAll ns t).irq = (offerAll ns s).irq := by
  induction ns generalizing s t with
  | nil => exact ⟨hr, hq⟩
  | cons n ns ih => exact ih hi (by simp [hi, hr]) (by simp [hr, hq])

/-! ### The entry taken -/

/-- The split at the first element with the property, given where it stands. -/
theorem splitFirst_append {α : Type} {p : α → Bool} {before after : List α} {x : α} (hx : p x = true)
    (hbefore : ∀ y ∈ before, p y = false) :
    splitFirst p (before ++ x :: after) = some (x, before ++ after) := by
  induction before with
  | nil => simp [splitFirst, hx]
  | cons y ys ih =>
    have hy : p y = false := hbefore y List.mem_cons_self
    have hys := ih fun z hz => hbefore z (List.mem_cons_of_mem y hz)
    simp [splitFirst, hy, hys]

/-- A taking names the entry that R65 says (R45, R65). -/
theorem selectEntry_of_takesNext {s : State} {e : Entry} {rest : List Entry} (h : TakesNext s e rest) :
    selectEntry s = some (e, rest) := by
  obtain ⟨hdue, ⟨hstate, hentries⟩ | ⟨hstate, htrail, before, after, hentries, rfl, hfirst⟩⟩ := h
  · unfold selectEntry
    split
    · contradiction
    all_goals simp [hentries, Entry.isDue, hdue]
  · simp only [selectEntry, hstate, hentries]
    refine splitFirst_append (by simp [Entry.isTrail, Entry.isDue, htrail, hdue]) fun x hx => ?_
    by_cases hx' : x.action = .trail
    · simp [Entry.isTrail, Entry.isDue, hx', hfirst x hx hx']
    · simp [Entry.isTrail, hx']

/-- What the taking of an entry does before the claim ends: the firing of a TRAIL, or the drop or firing of any
other entry (R69, R75). -/
def takenEntry (e : Entry) (rest : List Entry) (s : State) : State :=
  if e.isTrail then fireTrail e rest s else takeWork e rest s

/-- A taking of a named entry. -/
theorem taking_of_selected {s : State} {e : Entry} {rest : List Entry}
    (h : selectEntry s = some (e, rest)) :
    taking s = signalFall (occupancyOf s.table.entries)
      (endSingle e.isTrail (reportEmpty (takenEntry e rest s))) := by
  simp only [taking, h, takenEntry]

theorem taking_of_none {s : State} (h : selectEntry s = none) : taking s = s := by
  simp only [taking, h]

/-! ### The end of a taking -/

/-- The notices of the end of a taking that left the entries `es` (R66, R79). -/
def endBodies (s : State) (es : List Entry) (ends : Bool) : List NoticeBody :=
  (if s.seq.emptyReport && es.isEmpty then [.tableEmpty] else []) ++ (if ends then [.seqStopped .single] else [])

/-- TABLE_EMPTY and the end of SINGLE, as notices offered and one cause raised. -/
theorem endSingle_reportEmpty (trail : Bool) (u : State) :
    endSingle trail (reportEmpty u) =
      (let ends := !trail && u.seq.state == .single
      { raiseIf ends .seqStop (offerAll (endBodies u u.table.entries ends) u) with
        seq := if ends then { u.seq with state := .stopped, stopCause := .single } else u.seq }) := by
  have hseq : (reportEmpty u).seq = u.seq := by simp [reportEmpty]
  have hempty : reportEmpty u =
      offerAll (if u.seq.emptyReport && u.table.entries.isEmpty then [.tableEmpty] else []) u :=
    offerIf_eq_offerAll _ _ u
  simp only [endSingle, hseq, endBodies, offerAll_append, ← hempty]
  by_cases hends : u.seq.state = .single ∧ trail = false
  · simp only [hends, and_self, if_true]
    have hbool : (!false && SeqState.single == SeqState.single) = true := rfl
    simp only [hbool, if_true, offerAll, stopSequencer, hseq]
    rfl
  · have hbool : (!trail && u.seq.state == .single) = false := by
      cases trail <;> simp_all
    simp only [hends, hbool, if_false, Bool.false_eq_true]
    rw [← hseq]
    rfl

/-- The end of a taking, for whatever the taking of the entry left: its entries, its lines, its own notices and
LATE (R38, R66, R78, R79). -/
theorem takingLeaves_of_taken {s u : State} {es : List Entry} {lines : LineUnit} {own : List NoticeBody}
    {late : Bool} (trail : Bool)
    (hu : u = raiseIf late .late { offerAll own s with lines := lines, table := { s.table with entries := es } }) :
    TakingLeaves s (signalFall (occupancyOf s.table.entries) (endSingle trail (reportEmpty u))) es lines own late
      (!trail) := by
  have hclock : u.timebase = s.timebase := by simp [hu]
  have hseq : u.seq = s.seq := by simp [hu]
  have htable : u.table = { s.table with entries := es } := by simp [hu]
  have hends := endSingle_reportEmpty trail u
  simp only [hseq, htable] at hends
  let base : State := { offerAll own s with lines := lines, table := { s.table with entries := es } }
  have hbodies : ∀ bs, (offerAll bs base).report = (offerAll (own ++ bs) s).report
      ∧ (offerAll bs base).irq = (offerAll (own ++ bs) s).irq := fun bs => by
    rw [offerAll_append]
    exact offerAll_congr (s := offerAll own s) (t := base) rfl rfl rfl bs
  have hoffers : ∀ bs, (offerAll bs u).report = (offerAll (own ++ bs) s).report
      ∧ (offerAll bs u).irq = (offerAll (own ++ bs) s).irq.setIf (late = true) .late := fun bs => by
    rw [hu, offerAll_raiseIf]
    refine ⟨(hbodies bs).1, ?_⟩
    rw [raiseIf_irq, (hbodies bs).2]
    rfl
  have happend : ∀ ends, own ++ endBodies s es ends =
      own ++ (if s.seq.emptyReport && es.isEmpty then [.tableEmpty] else [])
        ++ (if ends then [.seqStopped .single] else []) := fun ends => by
    rw [endBodies, List.append_assoc]
  have hbodiesEnd : ∀ ends, endBodies u es ends = endBodies s es ends := fun ends => by rw [endBodies, hseq, endBodies]
  rw [hends, hbodiesEnd]
  refine ⟨?_, ?_, ?_, ?_, ?_, ?_, ?_⟩
  · simp [htable]
  · simp [hu]
  · simp
  · rw [signalFall_report, ← happend, ← (hoffers _).1]
    rfl
  · rw [signalFall_irq, ← happend, ← (hoffers _).2]
    rfl
  · simp [signalFall_aring, afterFall, hu]
  · simp [TakingKeeps, hu]

/-! ### A drop, a firing, a TRAIL -/

/-- Notices offered beside another line unit and other entries. -/
theorem offerAll_withBlocks (ns : List NoticeBody) (s : State) (l : LineUnit) (x : Table) :
    offerAll ns { s with lines := l, table := x } = { offerAll ns s with lines := l, table := x } := by
  induction ns generalizing s with
  | nil => rfl
  | cons n ns ih => exact ih (offer n s)

/-- The notices of a TRAIL firing: of its refused lines alone (R76). -/
def trailBodies (e : Entry) (s : State) : List NoticeBody :=
  if (s.lines.fire .trail e.lines e.due s.timebase.integer).refused != 0 then
    [.fired (trailNotice e s.timebase.integer s.timebase.lateMargin
      (s.lines.fire .trail e.lines e.due s.timebase.integer).refused)]
  else []

/-- The taking of a TRAIL (R75). -/
theorem takenEntry_of_trail {e : Entry} (rest : List Entry) (s : State) (h : e.isTrail = true) :
    takenEntry e rest s = raiseIf false .late { offerAll (trailBodies e s) s with
      lines := (s.lines.fire .trail e.lines e.due s.timebase.integer).lines
      table := { s.table with entries := rest } } := by
  simp only [takenEntry, h, if_true, fireTrail, offerIf_eq_offerAll]
  exact offerAll_withBlocks _ s _ _

/-- The taking of a late DROP_LATE entry (R69, R77). -/
theorem takenEntry_of_drop {e : Entry} (rest : List Entry) {s : State} (h : e.isTrail = false)
    (hlate : e.isLate s.timebase.integer s.timebase.lateMargin = true) (hdrop : e.late = .dropLate) :
    takenEntry e rest s = raiseIf true .late
      { offerAll [.dropped (droppedNotice e (e.course s.timebase.integer true))] s with
        lines := s.lines
        table := { s.table with entries := droppedTable e (e.course s.timebase.integer true) rest } } := by
  simp only [takenEntry, takeWork, h, hlate, hdrop, and_self, if_true, Bool.false_eq_true, if_false, dropEntry,
    offer_raise]
  rfl

/-- The entry is late as the sequencer sees it now (R68). -/
def lateNow (e : Entry) (s : State) : Bool := e.isLate s.timebase.integer s.timebase.lateMargin

/-- The course of the entry taken now. -/
def courseNow (e : Entry) (s : State) : Course := e.course s.timebase.integer (lateNow e s)

/-- The line effect of the entry fired now. -/
def effectNow (e : Entry) (s : State) : Effect := s.lines.fire e.action e.lines e.due s.timebase.integer

/-- The table beside the entry fired now, with the TRAIL it makes. -/
def besideNow (e : Entry) (rest : List Entry) (s : State) : List Entry :=
  withTrail e (effectNow e s).raised rest

/-- The notices of a firing: those of its line effect, and FIRED where R76 calls for one. -/
def firedBodies (e : Entry) (rest : List Entry) (s : State) : List NoticeBody :=
  let full := noRoom e (courseNow e s) (besideNow e rest s)
  let final := (courseNow e s).again.isNone || full
  (effectNow e s).notices ++
    if e.isReported (lateNow e s) final full (effectNow e s).refused then
      [.fired (firedNotice e (courseNow e s) s.timebase.integer s.timebase.lateMargin final full
        (effectNow e s).refused)]
    else []

/-- The taking of an entry that is neither a TRAIL nor dropped (R72 to R76). -/
theorem takenEntry_of_fire {e : Entry} (rest : List Entry) {s : State} (h : e.isTrail = false)
    (hfire : lateNow e s = true → e.late = .fireLate) :
    takenEntry e rest s = raiseIf (lateNow e s) .late
      { offerAll (firedBodies e rest s) s with
        lines := (effectNow e s).lines
        table := { s.table with
          entries := firedTable e (courseNow e s) (besideNow e rest s) } } := by
  have hkept : ¬ (e.isLate s.timebase.integer s.timebase.lateMargin = true ∧ e.late = .dropLate) :=
    fun ⟨hlate, hdrop⟩ => by simp [hfire hlate] at hdrop
  simp only [takenEntry, takeWork, h, hkept, if_false, Bool.false_eq_true, fireEntry, offerIf_eq_offerAll,
    offerAll_raiseIf, firedBodies, ← offerAll_append]
  exact congrArg (raiseIf (lateNow e s) .late) (offerAll_withBlocks _ s _ _)

/-! ### One taking -/

/-- The taking of a TRAIL, to its end. -/
theorem taking_of_trail {s : State} {e : Entry} {rest : List Entry} (hsel : selectEntry s = some (e, rest))
    (h : e.isTrail = true) :
    TakingLeaves s (taking s) rest (s.lines.fire .trail e.lines e.due s.timebase.integer).lines
      (trailBodies e s) false false := by
  rw [taking_of_selected hsel]
  have hend := takingLeaves_of_taken e.isTrail (takenEntry_of_trail rest s h)
  rwa [h] at hend ⊢

/-- The taking of a late DROP_LATE entry, to its end. -/
theorem taking_of_drop {s : State} {e : Entry} {rest : List Entry} (hsel : selectEntry s = some (e, rest))
    (h : e.isTrail = false) (hlate : e.isLate s.timebase.integer s.timebase.lateMargin = true)
    (hdrop : e.late = .dropLate) :
    TakingLeaves s (taking s) (droppedTable e (e.course s.timebase.integer true) rest) s.lines
      [.dropped (droppedNotice e (e.course s.timebase.integer true))] true true := by
  rw [taking_of_selected hsel]
  have hend := takingLeaves_of_taken e.isTrail (takenEntry_of_drop rest h hlate hdrop)
  rwa [h] at hend ⊢

/-- The firing of an entry that is no TRAIL, to its end. -/
theorem taking_of_fire {s : State} {e : Entry} {rest : List Entry} (hsel : selectEntry s = some (e, rest))
    (h : e.isTrail = false) (hfire : lateNow e s = true → e.late = .fireLate) :
    TakingLeaves s (taking s) (firedTable e (courseNow e s) (besideNow e rest s)) (effectNow e s).lines
      (firedBodies e rest s) (lateNow e s) true := by
  rw [taking_of_selected hsel]
  have hend := takingLeaves_of_taken e.isTrail (takenEntry_of_fire rest h hfire)
  rwa [h] at hend ⊢

/-- A taking leaves the part as it is, or takes a named entry in one of three ways. -/
theorem taking_cases (s : State) :
    taking s = s ∨ ∃ e rest, selectEntry s = some (e, rest) ∧
      ((e.isTrail = true ∧ TakingLeaves s (taking s) rest
            (s.lines.fire .trail e.lines e.due s.timebase.integer).lines (trailBodies e s) false false)
        ∨ (e.isTrail = false ∧ TakingLeaves s (taking s)
            (droppedTable e (e.course s.timebase.integer true) rest) s.lines
            [.dropped (droppedNotice e (e.course s.timebase.integer true))] true true)
        ∨ (e.isTrail = false ∧ TakingLeaves s (taking s)
            (firedTable e (courseNow e s) (besideNow e rest s)) (effectNow e s).lines
            (firedBodies e rest s) (lateNow e s) true)) := by
  cases hsel : selectEntry s with
  | none => exact .inl (taking_of_none hsel)
  | some er =>
    obtain ⟨e, rest⟩ := er
    refine .inr ⟨e, rest, rfl, ?_⟩
    by_cases htrail : e.isTrail = true
    · exact .inl ⟨htrail, taking_of_trail hsel htrail⟩
    · have htrail' : e.isTrail = false := Bool.eq_false_of_not_eq_true htrail
      by_cases hdrop : e.isLate s.timebase.integer s.timebase.lateMargin = true ∧ e.late = .dropLate
      · exact .inr (.inl ⟨htrail', taking_of_drop hsel htrail' hdrop.1 hdrop.2⟩)
      · refine .inr (.inr ⟨htrail', taking_of_fire hsel htrail' fun hlate => ?_⟩)
        cases hpolicy : e.late with
        | fireLate => rfl
        | dropLate => exact absurd ⟨hlate, hpolicy⟩ hdrop

/-! ### The statements of the taking -/

/-- Settles O26: where no entry is named, a taking changes nothing. -/
theorem nothingIsTakenBeforeItsDue : Obligations.NothingIsTakenBeforeItsDue := by
  intro s hhead htrail
  have hnone : selectEntry s = none := by
    unfold selectEntry
    split
    · next hstate =>
      refine splitFirst_none.mpr fun x hx => ?_
      by_cases hx' : x.action = .trail
      · simp [Entry.isDue, htrail hstate x hx hx']
      · simp [Entry.isTrail, hx']
    all_goals
      next hstate =>
      split
      · rfl
      · next e rest hentries =>
        have hdue := hhead (by simp [hstate]) e rest hentries
        simp [Entry.isDue, Nat.not_le.mpr hdue]
  have hlive : exec .taking s = live s taking := rfl
  simp only [hlive, live, taking_of_none hnone, ite_self]

/-- A remaining decreased, as a number (R71). -/
theorem remaining_sub {m : BitVec 16} {k : Nat} (hk : k + 1 ≤ m.toNat) :
    m - BitVec.ofNat 16 (k + 1) = BitVec.ofNat 16 (m.toNat - (k + 1)) := by
  have hm := m.isLt
  refine BitVec.eq_of_toNat_eq ?_
  simp only [BitVec.toNat_sub, BitVec.toNat_ofNat]
  omega

/-- A remaining decreased is 0 exactly where all of it is taken (R71). -/
theorem remaining_eq_zero_iff {m : BitVec 16} {k : Nat} (hk : k + 1 ≤ m.toNat) :
    BitVec.ofNat 16 (m.toNat - (k + 1)) = 0 ↔ m.toNat = k + 1 := by
  have hm := m.isLt
  have hzero : (0 : BitVec 16).toNat = 0 := rfl
  rw [← BitVec.toNat_inj, BitVec.toNat_ofNat, hzero]
  omega

/-- The skipped count of a counted repeat leaves one taking at least (R70). -/
theorem skipped_lt {m : BitVec 16} (passed : Nat) (hm : m ≠ 0) : min passed (m.toNat - 1) + 1 ≤ m.toNat := by
  have hpos : 0 < m.toNat := Nat.pos_of_ne_zero fun h => hm (BitVec.eq_of_toNat_eq h)
  omega

/-- Settles O27: the course unfolds to the numbers of R70 and R71, and the counted remaining does not wrap. -/
theorem repeatCourseFollowsTheGrid : Obligations.RepeatCourseFollowsTheGrid := by
  intro e now late
  refine ⟨fun hrep => by simp only [Entry.course, hrep], fun r hrep hinterval => ⟨fun hnone => ?_, fun m hm hpos => ?_⟩⟩
  · simp only [Entry.course, hrep, Repeat.skipped, Entry.lateness, hnone, Option.map_none, Option.getD_none,
      reduceCtorEq, false_or, Config.maxTime]
    rw [← hnone]
  · have hk := skipped_lt (if late then (now.toNat - e.due.toNat - 1) / r.interval.toNat else 0) hpos
    simp only [Entry.course, hrep, Repeat.skipped, Entry.lateness, hm, Option.map_some, Option.getD_some,
      Option.some.injEq, Config.maxTime, remaining_sub hk, remaining_eq_zero_iff hk]

/-- Settles O28: a late DROP_LATE entry leaves what `taking_of_drop` says. -/
theorem lateDropLateEntryIsDropped : Obligations.LateDropLateEntryIsDropped := by
  intro s e rest hawake hnext haction hdrop hlate c es
  have hleaves := taking_of_drop (selectEntry_of_takesNext hnext) (beq_eq_false_iff_ne.mpr haction)
    (decide_eq_true hlate) hdrop
  have hes : es = droppedTable e c rest := by
    simp only [es, droppedTable]
    cases c.again <;> rfl
  rw [hes]
  exact ⟨taking s, live_of_awake hawake, hleaves⟩

/-- Settles O29: an entry that is no PULSE makes no TRAIL and needs no reservation, so its firing leaves the
rest of the table and the entry at its next due. -/
theorem dueEntryFires : Obligations.DueEntryFires := by
  intro s e rest hawake hnext haction hpulse hreserved lateness late hfire c es effect final reported
  have hleaves := taking_of_fire (selectEntry_of_takesNext hnext) (beq_eq_false_iff_ne.mpr haction) hfire
  have hbeside : besideNow e rest s = rest := by
    unfold besideNow withTrail
    split
    · next width hwidth => simp [hwidth, Action.isPulse] at hpulse
    · rfl
  have hroom : noRoom e c rest = false := by simp [noRoom, hpulse]
  have hcourse : courseNow e s = c := rfl
  have hes : firedTable e (courseNow e s) (besideNow e rest s) = es := by
    simp only [es, firedTable, hbeside, hroom, hcourse]
    cases c.again with
    | none => rfl
    | some next => simp [Entry.moved, hpulse, hreserved]
  have hbodies : firedBodies e rest s = effect.notices ++ if reported then
      [.fired
        { late := late, final := final, trail := false, noRoom := false
          serial := e.serial, tag := e.tag, due := e.due
          remaining := if c.again.isNone && Config.overflowShowsZero then 0 else c.remaining
          refused := effect.refused
          lateness := if late then BitVec.ofNat 24 (min lateness (2 ^ 24 - 1)) else 0
          skipped := BitVec.ofNat 24 (min c.skipped (2 ^ 24 - 1)) }]
      else [] := by
    simp only [firedBodies, hbeside, hcourse, hroom, Entry.isReported, firedNotice, shownRemaining_eq, Bool.or_false]
    rfl
  rw [hes, hbodies] at hleaves
  exact ⟨taking s, live_of_awake hawake, hleaves⟩

/-- Settles O30: a PULSE turns its reservation into the TRAIL of the lines it raised, and goes on only with a
fresh one. -/
theorem duePulseMakesItsTrail : Obligations.DuePulseMakesItsTrail := by
  intro s e rest width hawake hnext haction hreserved lateness late hfire c effect trail table full es noRoom'
    final reported
  have hleaves := taking_of_fire (selectEntry_of_takesNext hnext)
    (beq_eq_false_iff_ne.mpr (by simp [haction])) hfire
  have hpulse : e.action.isPulse = true := isPulse_iff.mpr ⟨width, haction⟩
  have heffect : effectNow e s = { s.lines.drive e.lines e.lines with
      raised := e.lines &&& ~~~ s.lines.patternMask } := by
    simp only [effectNow, haction, LineUnit.fire]
  have hbeside : besideNow e rest s = table := by
    simp only [besideNow, withTrail, haction, heffect]
    rfl
  have hcourse : courseNow e s = c := rfl
  have hroom : noRoom e c table = noRoom' := by
    simp only [noRoom, hpulse, Bool.true_and]
    rfl
  have hes : firedTable e (courseNow e s) (besideNow e rest s) = es := by
    simp only [es, firedTable, hbeside, hroom, hcourse, noRoom']
    cases c.again with
    | none => rfl
    | some next => cases full <;> simp [Entry.moved, hpulse, hreserved]
  have hnotices : effect.notices = [] := by
    simp only [effect, haction]
    rfl
  have hbodies : firedBodies e rest s = if reported then
      [.fired
        { late := late, final := final, trail := false, noRoom := noRoom'
          serial := e.serial, tag := e.tag, due := e.due
          remaining := if c.again.isNone && Config.overflowShowsZero then 0 else c.remaining
          refused := effect.refused
          lateness := if late then BitVec.ofNat 24 (min lateness (2 ^ 24 - 1)) else 0
          skipped := BitVec.ofNat 24 (min c.skipped (2 ^ 24 - 1)) }]
      else [] := by
    have hfinal : (c.again.isNone || noRoom') = final := by
      simp only [noRoom', final]
      cases c.again <;> simp
    have hnow : effectNow e s = effect := rfl
    simp only [firedBodies, hbeside, hroom, hcourse, hnow, hnotices, List.nil_append, hfinal, Entry.isReported,
      firedNotice, shownRemaining_eq]
    rfl
  rw [hes, hbodies] at hleaves
  exact ⟨taking s, live_of_awake hawake, hleaves⟩

/-- Settles O31: a TRAIL drives its STATIC lines to 0 and leaves the table, in every sequencer state. -/
theorem dueTrailFiresInEveryState : Obligations.DueTrailFiresInEveryState := by
  intro s e rest hawake hnext haction lateness refused
  have hleaves := taking_of_trail (selectEntry_of_takesNext hnext) (beq_iff_eq.mpr haction)
  have hlines : (s.lines.fire .trail e.lines e.due s.timebase.integer).lines =
      { s.lines with level := s.lines.level &&& ~~~ (e.lines &&& ~~~ s.lines.patternMask) } := by
    simp [LineUnit.fire, LineUnit.drive, writeLevels]
  have hbodies : trailBodies e s = if refused = 0 then [] else
      [.fired
        { late := false, final := false, trail := true, noRoom := false
          serial := e.serial, tag := e.tag, due := e.due, remaining := 0, refused := refused
          lateness := if s.timebase.lateMargin.toNat < lateness then
            BitVec.ofNat 24 (min lateness (2 ^ 24 - 1)) else 0
          skipped := 0 }] := by
    have hrefused : (s.lines.fire .trail e.lines e.due s.timebase.integer).refused = refused := rfl
    simp only [trailBodies, hrefused, trailNotice, Entry.shownLateness, Entry.isLate, decide_eq_true_eq]
    by_cases h : refused = 0
    · simp [h]
    · simp only [h, bne_iff_ne, ne_eq, not_false_eq_true, if_true, if_false]
      rfl
  rw [hlines, hbodies] at hleaves
  exact ⟨taking s, live_of_awake hawake, hleaves⟩

end Sys2Proof.Machine
end

section
/-! PROOFS. The table invariant (R30, R39, R46; O4). It says something of the entries and something of the response
unit, so it is split in two; each half is kept by the few operations whose footprint meets it. -/

namespace Sys2Proof.Machine

/-! ### The two halves -/

/-- The half of the invariant about the entries. -/
def EntriesFit (es : List Entry) : Prop :=
  es.Pairwise (fun a b => a.due.toNat ≤ b.due.toNat) ∧ (∀ e ∈ es, e.fits = true)
    ∧ occupancyOf es ≤ Config.tableSlots

/-- The half of the invariant about the templates and the response claims. -/
def ResponseFits (u : ResponseUnit) : Prop :=
  (∀ n : Fin 8, u.templates[n].state ≠ .empty → u.templates[n].fields.fits = true)
    ∧ ∀ c ∈ u.claims, c.fields.fits = true

theorem tableInv_iff {s : State} : TableInv s ↔ EntriesFit s.table.entries ∧ ResponseFits s.response := by
  simp only [TableInv, EntriesFit, ResponseFits, and_assoc]

/-! ### The entries -/

theorem entriesFit_nil : EntriesFit [] := by
  refine ⟨.nil, fun e he => ?_, Nat.zero_le _⟩
  cases he

/-- Entries that go leave a table that fits. -/
theorem EntriesFit.sublist {as bs : List Entry} (h : EntriesFit bs) (hsub : as.Sublist bs) : EntriesFit as := by
  obtain ⟨horder, hfits, hroom⟩ := h
  exact ⟨horder.sublist hsub, fun e he => hfits e (hsub.subset he), (occupancyOf_sublist hsub).trans hroom⟩

/-- An entry that comes where there is room leaves a table that fits (R39, R40). -/
theorem EntriesFit.insert {e : Entry} {es : List Entry} (h : EntriesFit es) (he : e.fits = true)
    (hroom : occupancyOf es + 1 + (if e.reserved then 1 else 0) ≤ Config.tableSlots) :
    EntriesFit (insertEntry e es) := by
  obtain ⟨horder, hfits, -⟩ := h
  refine ⟨pairwise_insertEntry horder, fun x hx => ?_, ?_⟩
  · obtain rfl | hx := mem_insertEntry.mp hx
    · exact he
    · exact hfits x hx
  · rwa [occupancyOf_insertEntry]

/-- An entry fits when its reservation, its parameters, its lines and its repeat do. -/
theorem entry_fits_iff {e : Entry} :
    e.fits = true ↔ e.reserved = e.action.isPulse ∧ e.action.inRange = true ∧ linesFit e.action e.lines = true
      ∧ ∀ r, e.rep = some r → e.isTrail = false ∧ r.fits e.action = true := by
  simp only [Entry.fits, Bool.and_eq_true, beq_iff_eq, and_assoc]
  cases e.rep <;> simp

/-- A repeat fits when its interval does, and its remaining lies from 1 to its count. -/
theorem repeat_fits_iff {a : Action} {r : Repeat} :
    r.fits a = true ↔ repeatFits a (some (r.interval, r.count)) = true
      ∧ (r.remaining = none → r.count = 0) ∧ ∀ m, r.remaining = some m → m ≠ 0 ∧ m.toNat ≤ r.count.toNat := by
  simp only [Repeat.fits, Bool.and_eq_true]
  cases r.remaining <;> simp

/-! ### CANCEL_LINES -/

@[simp] theorem narrow_due (m : LineMask) (e : Entry) : (e.narrow m).due = e.due := by
  unfold Entry.narrow
  split <;> rfl

@[simp] theorem narrow_reserved (m : LineMask) (e : Entry) : (e.narrow m).reserved = e.reserved := by
  unfold Entry.narrow
  split <;> rfl

/-- An entry that keeps a line fits with its other lines removed (R52). -/
theorem narrow_fits {m : LineMask} {e : Entry} (h : e.fits = true) (hkeeps : e.emptiedBy m = false) :
    (e.narrow m).fits = true := by
  unfold Entry.narrow
  split
  · exact h
  · next hvisited =>
    have hline : (e.lines &&& ~~~ m == 0) = false := by
      simpa [Entry.emptiedBy, Bool.eq_false_of_not_eq_true hvisited] using hkeeps
    have hmark : (e.action == .mark) = false := by
      simp only [Entry.keepsLines, Bool.or_eq_true, not_or] at hvisited
      exact Bool.eq_false_of_not_eq_true hvisited.2
    obtain ⟨hreserved, hrange, -, hrep⟩ := entry_fits_iff.mp h
    exact entry_fits_iff.mpr ⟨hreserved, hrange, by simp only [linesFit, hmark, hline, beq_self_eq_true], hrep⟩

/-- Narrowing moves no entry and frees no slot. -/
theorem EntriesFit.narrowed {es : List Entry} (m : LineMask) (h : EntriesFit es)
    (hkeep : ∀ e ∈ es, e.emptiedBy m = false) : EntriesFit (es.map (Entry.narrow m)) := by
  obtain ⟨horder, hfits, hroom⟩ := h
  refine ⟨List.pairwise_map.mpr (by simpa using horder), fun x hx => ?_, ?_⟩
  · obtain ⟨e, he, rfl⟩ := List.mem_map.mp hx
    exact narrow_fits (hfits e he) (hkeep e he)
  · have hcount : occupancyOf (es.map (Entry.narrow m)) = occupancyOf es := by
      simp only [occupancyOf, reservationsOf, List.length_map, List.countP_map]
      congr 2
      funext e
      simp
    rwa [hcount]

/-! ### A taking -/

/-- The repeat an entry goes on with fits as the one it had (R26, R71). -/
theorem course_again_fits {e : Entry} {now : Time} {late : Bool} {due : Time} {r : Repeat}
    (hrep : ∀ r, e.rep = some r → r.fits e.action = true) (h : (e.course now late).again = some (due, r)) :
    e.rep.isSome = true ∧ r.fits e.action = true := by
  unfold Entry.course at h
  split at h
  · cases h
  · next r0 hr0 =>
    refine ⟨by simp [hr0], ?_⟩
    obtain ⟨hinterval, hunlimited, hcounted⟩ := repeat_fits_iff.mp (hrep r0 hr0)
    simp only [] at h
    split at h
    · cases h
    · next hgoes =>
      obtain ⟨-, rfl⟩ := Prod.mk.inj (Option.some.inj h)
      refine repeat_fits_iff.mpr ⟨hinterval, fun hnone => hunlimited (Option.map_eq_none_iff.mp hnone),
        fun m hm => ?_⟩
      obtain ⟨m0, hm0, rfl⟩ := Option.map_eq_some_iff.mp hm
      obtain ⟨hpos, hle⟩ := hcounted m0 hm0
      refine ⟨fun hzero => hgoes (.inl ?_), ?_⟩
      · exact hm.trans (congrArg some hzero)
      · have hk : r0.skipped late (e.lateness now) + 1 ≤ m0.toNat := by
          simp only [Repeat.skipped, hm0]
          exact skipped_lt _ hpos
        have hlt := m0.isLt
        rw [remaining_sub hk, BitVec.toNat_ofNat]
        change _ ≤ r0.count.toNat
        omega

/-- An entry at its next due fits where its reservation is that of its kind. -/
theorem moved_fits {e : Entry} {now : Time} {late : Bool} {due : Time} {r : Repeat} (he : e.fits = true)
    (htrail : e.isTrail = false) (h : (e.course now late).again = some (due, r)) :
    (e.moved due r e.action.isPulse).fits = true := by
  obtain ⟨-, hrange, hlines, hrep⟩ := entry_fits_iff.mp he
  obtain ⟨-, hr⟩ := course_again_fits (fun r hr => (hrep r hr).2) h
  refine entry_fits_iff.mpr ⟨rfl, hrange, hlines, fun r' hr' => ⟨htrail, ?_⟩⟩
  obtain rfl := Option.some.inj hr'
  exact hr

/-- A drop leaves a table that fits: the entry leaves and comes back with its reservation (R45). -/
theorem EntriesFit.dropped {e : Entry} {rest : List Entry} {now : Time} {late : Bool} (he : e.fits = true)
    (htrail : e.isTrail = false) (hrest : EntriesFit rest)
    (hroom : occupancyOf rest + 1 + (if e.reserved then 1 else 0) ≤ Config.tableSlots) :
    EntriesFit (droppedTable e (e.course now late) rest) := by
  unfold droppedTable
  split
  · exact hrest
  · next due r hagain =>
    refine hrest.insert ?_ hroom
    rw [(entry_fits_iff.mp he).1]
    exact moved_fits he htrail hagain

/-- The TRAIL of a firing that raised a line fits (R33). -/
theorem trail_fits {e : Entry} {width : BitVec 24} {raised : LineMask} (h : raised ≠ 0) :
    (e.trail width raised).fits = true := by
  have hlines : (raised == 0) = false := beq_eq_false_iff_ne.mpr h
  refine entry_fits_iff.mpr ⟨rfl, rfl, ?_, fun r hr => by cases hr⟩
  simp only [Entry.trail, linesFit, hlines]
  rfl

/-- The table beside a fired entry fits, and its TRAIL takes no more than the reservation did (R42, R45). -/
theorem EntriesFit.withTrail {e : Entry} {rest : List Entry} (raised : LineMask) (hrest : EntriesFit rest)
    (hroom : occupancyOf rest + 1 + (if e.action.isPulse then 1 else 0) ≤ Config.tableSlots) :
    EntriesFit (withTrail e raised rest) ∧
      occupancyOf (Machine.withTrail e raised rest) ≤ occupancyOf rest + (if e.action.isPulse then 1 else 0) := by
  unfold Machine.withTrail
  split
  · next width haction =>
    simp only [haction, Action.isPulse, if_true] at hroom ⊢
    split
    · exact ⟨hrest, Nat.le_add_right _ _⟩
    · next hraised =>
      have hocc : occupancyOf (insertEntry (e.trail width raised) rest) = occupancyOf rest + 1 :=
        occupancyOf_insertEntry _ _
      exact ⟨hrest.insert (trail_fits hraised) (by simp only [Entry.trail, Bool.false_eq_true, if_false]; omega),
        hocc.le⟩
  · exact ⟨hrest, Nat.le_add_right _ _⟩

/-- A firing leaves a table that fits: the entry comes back only where its reservation finds room (R46). -/
theorem EntriesFit.fired {e : Entry} {table : List Entry} {now : Time} {late : Bool} (he : e.fits = true)
    (htrail : e.isTrail = false) (htable : EntriesFit table)
    (hroom : e.action.isPulse = false → occupancyOf table + 1 ≤ Config.tableSlots) :
    EntriesFit (firedTable e (e.course now late) table) := by
  unfold firedTable
  split
  · exact htable
  · next due r hagain =>
    split
    · exact htable
    · next hfull =>
      refine htable.insert (moved_fits he htrail hagain) ?_
      cases hpulse : e.action.isPulse with
      | false => simpa [Entry.moved, hpulse] using hroom hpulse
      | true =>
        simp only [noRoom, hpulse, hagain, Option.isSome_some, Bool.and_self, Bool.true_and,
          decide_eq_true_eq, Nat.not_le] at hfull
        simp only [Entry.moved, if_true]
        omega

/-- A taking leaves a table that fits. -/
theorem EntriesFit.taking {s : State} (h : EntriesFit s.table.entries) : EntriesFit (taking s).table.entries := by
  obtain hsame | ⟨e, rest, hsel, hcases⟩ := taking_cases s
  · rwa [hsame]
  · obtain ⟨-, hperm, hsub, -⟩ := selectEntry_some hsel
    have hrest : EntriesFit rest := h.sublist hsub
    have he : e.fits = true := h.2.1 e (hperm.mem_iff.mpr List.mem_cons_self)
    have hreserved : e.reserved = e.action.isPulse := (entry_fits_iff.mp he).1
    have hroom : occupancyOf rest + 1 + (if e.reserved then 1 else 0) ≤ Config.tableSlots := by
      rw [← occupancyOf_cons, ← occupancyOf_perm hperm]
      exact h.2.2
    obtain ⟨-, hleaves⟩ | ⟨htrail, hleaves⟩ | ⟨htrail, hleaves⟩ := hcases
    all_goals rw [show (Machine.taking s).table = _ from hleaves.1]
    · exact hrest
    · exact .dropped he htrail hrest hroom
    · rw [hreserved] at hroom
      obtain ⟨hbeside, hocc⟩ := hrest.withTrail (effectNow e s).raised hroom
      refine .fired he htrail hbeside fun hpulse => ?_
      simp only [hpulse, Bool.false_eq_true, if_false] at hocc hroom
      simp only [besideNow]
      omega

/-! ### Templates and claims -/

/-- A change of one template that is loaded with fields that fit, or stays empty. -/
theorem ResponseFits.onTemplate {s : State} (n : Fin 8) {f : Template → Template} (h : ResponseFits s.response)
    (hf : (f s.response.templates[n]).state ≠ .empty → (f s.response.templates[n]).fields.fits = true) :
    ResponseFits (onTemplate n f s).response := by
  refine ⟨fun k => ?_, h.2⟩
  by_cases hk : n = k
  · subst hk
    simpa using hf
  · have hne : n.val ≠ k.val := fun hval => hk (Fin.ext hval)
    simpa [Vector.getElem_set_ne, hne] using h.1 k

/-- A change of one template's state alone, of a template that is not empty. -/
theorem ResponseFits.onState {s : State} (n : Fin 8) {f : Template → Template} (h : ResponseFits s.response)
    (hfields : ∀ p, (f p).fields = p.fields)
    (hstate : s.response.templates[n].state = .empty → (f s.response.templates[n]).state = .empty) :
    ResponseFits (Machine.onTemplate n f s).response := by
  refine h.onTemplate n fun hne => ?_
  rw [hfields]
  exact h.1 n fun hempty => hne (hstate hempty)

/-- Claims that go leave a response unit that fits. -/
theorem ResponseFits.taken {u : ResponseUnit} {c : ResponseClaim} {rest : List ResponseClaim}
    (h : ResponseFits u) (hclaims : u.claims = c :: rest) : ResponseFits { u with claims := rest } :=
  ⟨h.1, fun x hx => h.2 x (hclaims ▸ List.mem_cons_of_mem c hx)⟩

theorem responseFits_reset : ResponseFits ResponseUnit.reset := by
  refine ⟨fun n hne => absurd ?_ hne, fun c hc => by cases hc⟩
  simp [ResponseUnit.reset, Template.reset]

@[simp] theorem offerRecord_response (r : CaptureRecord) (s : State) :
    (offerRecord r s).response = s.response := by
  unfold offerRecord
  split <;> rfl

/-- An edge that triggers a template makes a claim of fields that fit (R124). -/
theorem ResponseFits.triggered {s : State} (n : Fin 8) (t : Time) (h : ResponseFits s.response) :
    ResponseFits (triggerTemplate n t s).response := by
  simp only [triggerTemplate]
  split
  · next harmed =>
    have hfields : s.response.templates[n].fields.fits = true := h.1 n fun hempty => nomatch harmed.symm.trans hempty
    have hclaimed : ∀ u : ResponseUnit, ResponseFits u → ResponseFits
        { u with claims := u.claims ++ [{ line := n, fields := s.response.templates[n].fields
                                          delay := s.response.templates[n].delay, stamp := t }] } := by
      refine fun u hu => ⟨hu.1, fun c hc => ?_⟩
      obtain hc | hc := List.mem_append.mp hc
      · exact hu.2 c hc
      · obtain rfl := List.mem_singleton.mp hc
        exact hfields
    refine hclaimed _ ?_
    split
    · exact h.onState n (fun _ => rfl) fun hempty => nomatch harmed.symm.trans hempty
    · exact h
  all_goals exact h

theorem ResponseFits.edge {s : State} (n : Fin 8) (e : Edge) (h : ResponseFits s.response) :
    ResponseFits (inputEdge n e s).response := by
  simp only [inputEdge]
  split
  · split
    · split
      · exact h
      · exact .triggered n _ (by simpa using h)
    · exact h
  · exact h

/-! ### What each row keeps -/

theorem tableInv_of_within {b : Footprint} {s t : State} (h : Within b s t) (he : b.entries = false)
    (hr : b.response = false) (hs : TableInv s) : TableInv t := by
  rw [tableInv_iff] at hs ⊢
  rw [h.entries he, h.response hr]
  exact hs

/-- The table after a reset. -/
theorem tableInv_of_reset {t : State} (htable : t.table = Table.reset)
    (hresponse : t.response = ResponseUnit.reset) : TableInv t := by
  rw [tableInv_iff, htable, hresponse]
  exact ⟨entriesFit_nil, responseFits_reset⟩

theorem storeMasterEnable_table (b : Bool) (s : State) : (storeMasterEnable b s).table = s.table := by
  unfold storeMasterEnable
  split <;> rfl

theorem storeMasterEnable_response (b : Bool) (s : State) : (storeMasterEnable b s).response = s.response := by
  unfold storeMasterEnable
  split <;> rfl

theorem writeRegister_tableInv {s : State} (r : Reg) (v : Word) (h : TableInv s) :
    TableInv (writeRegister r v s) := by
  cases r with
  | control =>
    simp only [writeRegister, writeControl]
    split
    · exact tableInv_of_reset rfl rfl
    · rw [tableInv_iff, storeMasterEnable_table, storeMasterEnable_response]
      exact tableInv_iff.mp h
  | _ => exact tableInv_of_within (writeRegister_within _ v s) rfl rfl h

theorem removeEntries_tableInv {s : State} (keep : Entry → Bool) (h : TableInv s) :
    TableInv (removeEntries keep s).1 := by
  rw [tableInv_iff] at h ⊢
  simp only [removeEntries, signalFall_table, signalFall_response]
  exact ⟨h.1.sublist List.filter_sublist, h.2⟩

theorem admitOwner_tableInv {s : State} (w : Words8) (h : TableInv s) : TableInv (admitOwner w s).1 := by
  unfold admitOwner
  split
  · exact h
  · next e hvalid =>
    obtain ⟨hfits, hroom, -⟩ := validateNow_ok hvalid
    exact tableInv_admitEntry h hfits hroom

theorem cancelLinesOwner_tableInv {s : State} (w : Words8) (h : TableInv s) :
    TableInv (cancelLinesOwner w s).1 := by
  simp only [cancelLinesOwner]
  split
  · exact h
  · rw [tableInv_iff] at h ⊢
    simp only [signalFall_table, signalFall_response]
    refine ⟨(h.1.sublist List.filter_sublist).narrowed _ fun e he => ?_, h.2⟩
    simpa using (List.mem_filter.mp he).2

theorem faultClaim_tableInv {s : State} (h : TableInv s) : TableInv (faultClaim s) := by
  unfold faultClaim
  split
  · exact h
  · rw [tableInv_iff] at h ⊢
    simp only [signalFall_table, signalFall_response]
    exact ⟨h.1.sublist List.filter_sublist, h.2⟩

theorem responseLoadOwner_tableInv {s : State} (w : Words8) (h : TableInv s) :
    TableInv (responseLoadOwner w s).1 := by
  unfold responseLoadOwner
  split
  · exact h
  · split
    · exact h
    · next f hcheck =>
      rw [tableInv_iff] at h ⊢
      exact ⟨h.1, h.2.onTemplate _ fun _ => loaded_fits hcheck⟩

theorem responseArmOwner_tableInv {s : State} (w : Words8) (h : TableInv s) :
    TableInv (responseArmOwner w s).1 := by
  unfold responseArmOwner
  split
  · exact h
  · split
    · exact h
    · next n _ hstate =>
      rw [tableInv_iff] at h ⊢
      exact ⟨h.1, h.2.onState n (fun _ => rfl) fun hempty => absurd (.inl hempty) hstate⟩

/-- A disarm changes the state of a template alone (R123). -/
theorem disarm_fields (p : Template) : p.disarm.fields = p.fields := by
  unfold Template.disarm
  split <;> rfl

/-- A settled claim changes the state of a template alone (R126, R127). -/
theorem settle_fields (x : TemplateState) (p : Template) : (p.settle x).fields = p.fields := by
  unfold Template.settle
  split <;> rfl

theorem responseDisarmOwner_tableInv {s : State} (w : Words8) (h : TableInv s) :
    TableInv (responseDisarmOwner w s).1 := by
  unfold responseDisarmOwner
  split
  · exact h
  · next n _ =>
    rw [tableInv_iff] at h ⊢
    exact ⟨h.1, h.2.onState n disarm_fields fun hempty => by simp only [Template.disarm, hempty]⟩

theorem responseClaim_tableInv {s : State} (h : TableInv s) : TableInv (responseClaim s) := by
  unfold responseClaim
  split
  · exact h
  · next c rest hclaims =>
    have hfields : c.fields.fits = true := (tableInv_iff.mp h).2.2 c (hclaims ▸ List.mem_cons_self)
    have htaken : TableInv { s with response := { s.response with claims := rest } } := by
      rw [tableInv_iff] at h ⊢
      exact ⟨h.1, h.2.taken hclaims⟩
    have hsettle : ∀ (x : TemplateState) (u : State), TableInv u → TableInv (onTemplate c.line (Template.settle x) u) :=
      fun x u hu => by
        rw [tableInv_iff] at hu ⊢
        exact ⟨hu.1, hu.2.onState _ (settle_fields x) fun hempty => by
            simp only [Template.settle, hempty, reduceCtorEq, if_false]⟩
    split
    · next e hvalid =>
      obtain ⟨hfits, hroom⟩ := responseValidate_ok hfields hvalid
      exact hsettle _ _ (tableInv_admitEntry htaken hfits hroom)
    · exact tableInv_of_within (b := {}) (offer_within _) rfl rfl (hsettle _ _ htaken)

/-- A descriptor's claim, fetched or held: an entry it admits is one validated now (R158 to R162). -/
theorem admitDescriptor_tableInv {s : State} {c : Candidate} {e : Entry} (h : TableInv s)
    (hvalid : validateNow c s = .ok e) : TableInv (admitDescriptor e s) := by
  obtain ⟨hfits, hroom, -⟩ := validateNow_ok hvalid
  exact tableInv_admitEntry h hfits hroom

theorem descriptorClaim_tableInv {s : State} (h : TableInv s) : TableInv (descriptorClaim s) := by
  unfold descriptorClaim claimDescriptor
  split
  · split
    · split
      · next hvalid => exact admitDescriptor_tableInv h hvalid
      · exact h
      · exact h
    · exact h
  · exact h

theorem retryClaim_tableInv {s : State} (h : TableInv s) : TableInv (retryClaim s) := by
  unfold retryClaim claimHeld
  split
  · split
    · next hvalid => exact admitDescriptor_tableInv h hvalid
    · exact h
    · exact h
  · exact h

/-- Every row keeps the table invariant. -/
theorem exec_tableInv (c : Instr) (s t : State) (hs : TableInv s) (h : exec c s = .next t) : TableInv t := by
  have hwithin := exec_within h
  cases hw : rowWrite c with
  | some rv =>
    rw [exec_of_writes hw] at h
    exact keeps_of_live h hs (writeRegister_tableInv rv.1 rv.2 hs)
  | none =>
    simp only [rowFootprint, hw] at hwithin
    have htaken : ∀ {k : Command} {owner : Words8 → State → State × Answer},
        live s (takeCommand k owner) = .next t → (∀ w, TableInv (owner w s).1) → TableInv t :=
      fun h howner => keeps_of_taken h (fun _ _ hu => hu) hs howner
    cases c with
    | powerOnReset =>
      obtain rfl := Host.Outcome.next.inj h
      exact tableInv_of_reset rfl rfl
    | admitCandidate => exact htaken h fun w => admitOwner_tableInv w hs
    | cancelTag => exact htaken h fun w => removeEntries_tableInv _ hs
    | flush => exact htaken h fun w => removeEntries_tableInv _ hs
    | cancelLines => exact htaken h fun w => cancelLinesOwner_tableInv w hs
    | responseLoad => exact htaken h fun w => responseLoadOwner_tableInv w hs
    | responseArm => exact htaken h fun w => responseArmOwner_tableInv w hs
    | responseDisarm => exact htaken h fun w => responseDisarmOwner_tableInv w hs
    | faultClaim => exact keeps_of_live h hs (faultClaim_tableInv hs)
    | taking =>
      refine keeps_of_live h hs (tableInv_iff.mpr ⟨(tableInv_iff.mp hs).1.taking, ?_⟩)
      rw [(taking_within s).response rfl]
      exact (tableInv_iff.mp hs).2
    | inputEdge n e =>
      refine keeps_of_live h hs (tableInv_iff.mpr ⟨?_, (tableInv_iff.mp hs).2.edge n e⟩)
      rw [(inputEdge_within n e s).entries rfl]
      exact (tableInv_iff.mp hs).1
    | responseClaim => exact keeps_of_live h hs (responseClaim_tableInv hs)
    | descriptorClaim => exact keeps_of_live h hs (descriptorClaim_tableInv hs)
    | retryClaim => exact keeps_of_live h hs (retryClaim_tableInv hs)
    | _ => exact tableInv_of_within hwithin rfl rfl hs

/-- Settles O4: every row keeps the invariant, so every step does. -/
theorem tableInvariantIsKept : Obligations.TableInvariantIsKept :=
  fun _ _ hs h => step_keeps (P := TableInv) (fun _ _ hs => hs) exec_tableInv hs h

end Sys2Proof.Machine
end

section
/-! PROOFS. The integer's moves (R2, R7, R9; O17) and the generator invariant (R96, R100, R101, R106; O5). A
generator that fits goes on fitting as the integer rises, so what is left is what each operation on one generator
leaves. -/

namespace Sys2Proof.Machine

/-! ### Moves of the integer -/

@[simp] theorem crossEpoch_integer (old : Time) (s : State) :
    (crossEpoch old s).timebase.integer = s.timebase.integer := by
  unfold crossEpoch
  split <;> rfl

@[simp] theorem holdTrim_integer (old : Time) (s : State) :
    (holdTrim old s).timebase.integer = s.timebase.integer := by
  unfold holdTrim
  split <;> rfl

@[simp] theorem crossEpoch_lines (old : Time) (s : State) : (crossEpoch old s).lines = s.lines := by
  unfold crossEpoch
  split <;> rfl

@[simp] theorem holdTrim_lines (old : Time) (s : State) : (holdTrim old s).lines = s.lines := by
  unfold holdTrim
  split <;> rfl

/-- A number up to 2^56-1 is the time it is placed as. -/
theorem toNat_time {v : Nat} (h : v ≤ Config.maxTime) : (BitVec.ofNat 56 v).toNat = v := by
  have hmax : Config.maxTime = 2 ^ 56 - 1 := rfl
  rw [BitVec.toNat_ofNat]
  omega

theorem time_le_maxTime (t : Time) : t.toNat ≤ Config.maxTime := by
  have h := t.isLt
  have hmax : Config.maxTime = 2 ^ 56 - 1 := rfl
  omega

/-- An advance does not move the integer backward (R1, R2). -/
theorem advance_integer_le (s : State) : s.timebase.integer.toNat ≤ (advance s).timebase.integer.toNat := by
  unfold advance
  split
  · exact Nat.le_refl _
  · have hle := time_le_maxTime s.timebase.integer
    simp only [crossEpoch_integer, placeInteger_timebase]
    rw [toNat_time (Nat.min_le_right _ _)]
    exact Nat.le_min.mpr ⟨Nat.le_add_right _ _, hle⟩

/-- TIME_STEP leaves the state, or moves the integer forward and the generators past the starts passed over. -/
theorem timeStepOwner_cases (w : Words8) (s : State) :
    (timeStepOwner w s).1 = s ∨ ∃ x, s.timebase.integer.toNat ≤ x
      ∧ (timeStepOwner w s).1.timebase.integer.toNat = x
      ∧ (timeStepOwner w s).1.lines = s.lines.overtaken x := by
  simp only [timeStepOwner]
  split
  · exact .inl rfl
  · split
    · exact .inl rfl
    · next hrange =>
      refine .inr ⟨s.timebase.integer.toNat + wideArgument w, Nat.le_add_right _ _, ?_, by simp⟩
      simp only [crossEpoch_integer, holdTrim_integer, placeInteger_timebase]
      exact toNat_time (Nat.not_lt.mp hrange)

/-- TIME_SET moves the integer only while the sequencer is STOPPED and every line is STATIC (R9). -/
theorem timeSetOwner_cases (w : Words8) (s : State) :
    (timeSetOwner w s).1 = s ∨ (s.seq.state = .stopped ∧ s.lines.patternMask = 0
      ∧ (timeSetOwner w s).1.lines = s.lines) := by
  simp only [timeSetOwner]
  split
  · exact .inl rfl
  · split
    · exact .inl rfl
    · next hstopped =>
      split
      · exact .inl rfl
      · split
        · exact .inl rfl
        · next hmask =>
          refine .inr ⟨not_not.mp hstopped, not_not.mp hmask, ?_⟩
          split <;> simp

/-! ### The integer while the sequencer runs -/

/-- A row but power-on reset does not move the integer backward while the sequencer runs (R1). -/
theorem exec_integer_le {c : Instr} {s t : State} (hc : c ≠ .powerOnReset) (hrun : s.seq.state ≠ .stopped)
    (h : exec c s = .next t) : s.timebase.integer.toNat ≤ t.timebase.integer.toNat := by
  have hwithin := exec_within h
  have hsame : ∀ {b}, Within b s t → b.integer = false → s.timebase.integer.toNat ≤ t.timebase.integer.toNat :=
    fun hw hb => Nat.le_of_eq (congrArg BitVec.toNat (hw.integer hb)).symm
  let P : State → Prop := fun u => s.timebase.integer.toNat ≤ u.timebase.integer.toNat
  have hs : P s := Nat.le_refl _
  cases hw : rowWrite c with
  | some rv =>
    obtain ⟨r, v⟩ := rv
    rw [exec_of_writes hw] at h
    refine keeps_of_live (P := P) h hs ?_
    cases r with
    | control =>
      have hstored : ∀ b, (storeMasterEnable b s).timebase = s.timebase := fun b => by
        unfold storeMasterEnable
        split <;> rfl
      simp only [P, writeRegister, writeControl]
      split <;> simp [hstored]
    | _ => exact Nat.le_of_eq (congrArg BitVec.toNat ((writeRegister_within _ v s).integer rfl)).symm
  | none =>
    simp only [rowFootprint, hw] at hwithin
    cases c with
    | powerOnReset => exact absurd rfl hc
    | timebaseAdvance => exact keeps_of_live (P := P) h hs (advance_integer_le s)
    | timeStep =>
      refine keeps_of_taken (P := P) h (fun _ _ hu => hu) hs fun w => ?_
      obtain hsame | ⟨x, hle, hx, -⟩ := timeStepOwner_cases w s
      · rw [hsame]
      · exact hle.trans hx.ge
    | timeSet =>
      refine keeps_of_taken (P := P) h (fun _ _ hu => hu) hs fun w => ?_
      obtain hsame | ⟨hstopped, -⟩ := timeSetOwner_cases w s
      · rw [hsame]
      · exact absurd hstopped hrun
    | _ => exact hsame hwithin rfl

/-- Settles O17: only TIME_SET and the power-on reset move the integer backward, and TIME_SET is refused while the
sequencer runs. -/
theorem runningTimeNeverFalls : Obligations.RunningTimeNeverFalls := by
  intro c s t hrun h
  by_cases hc : c = .powerOnReset
  · subst hc
    obtain rfl := Host.Outcome.next.inj h
    exact .inr ⟨rfl, rfl⟩
  · exact .inl (exec_integer_le hc hrun h)

/-! ### One generator -/

/-- A pair in range has a period of 2 at least. -/
theorem period_pos {p : Pair} (h : p.inRange = true) : 0 < p.period.toNat := by
  simp only [Pair.inRange, Bool.and_eq_true, decide_eq_true_eq] at h
  omega

variable {g : Generator} {now : Time}

/-- A generator that fits goes on fitting as the integer rises. -/
theorem Generator.fits.mono {later : Time} (h : g.fits now) (hle : now.toNat ≤ later.toNat) : g.fits later := by
  obtain ⟨hactive, hshadow, hstopped, hrunning⟩ := h
  refine ⟨hactive, hshadow, hstopped, fun hrun => ?_⟩
  obtain ⟨hstart, hgrid⟩ := hrunning hrun
  exact ⟨hstart.trans hle, hgrid⟩

/-- A stopped generator that fits does so at every integer. -/
theorem Generator.fits.of_stopped (h : g.fits now) (hstopped : g.running = false) (later : Time) :
    g.fits later := by
  obtain ⟨hactive, hshadow, hoff, -⟩ := h
  exact ⟨hactive, hshadow, hoff, fun hrun => nomatch hstopped.symm.trans hrun⟩

theorem Generator.fits.stopped (h : g.fits now) : g.stopped.fits now := by
  obtain ⟨-, hshadow, -, -⟩ := h
  exact ⟨hshadow, hshadow, fun _ => ⟨rfl, rfl, rfl⟩, nofun⟩

theorem Generator.fits.load {p : Pair} (hp : p.inRange = true) (h : g.fits now) : (g.load p).fits now := by
  obtain ⟨hactive, -, hstopped, hrunning⟩ := h
  unfold Generator.load
  split
  · next hrun => exact ⟨hactive, hp, fun hoff => by simp [hrun] at hoff, hrunning⟩
  · next hrun =>
    have hoff := Bool.eq_false_of_not_eq_true hrun
    exact ⟨hp, hp, fun _ => ⟨rfl, (hstopped hoff).2⟩, fun hon => absurd hon hrun⟩

theorem Generator.fits.startAt {due : Time} (hdue : due.toNat ≤ now.toNat) (h : g.fits now) :
    (g.startAt due now).fits now := by
  obtain ⟨-, hshadow, -, -⟩ := h
  refine ⟨hshadow, hshadow, nofun, fun _ => ⟨hdue, ?_, ?_⟩⟩
  · exact Nat.lt_add_of_pos_right (Nat.mul_pos (Nat.succ_pos _) (period_pos hshadow))
  · simp only [Generator.startAt, nextStartAfter, Nat.add_sub_cancel_left]
    exact Nat.mul_mod_left _ _

theorem Generator.fits.stopLater (final : Bool) (h : g.fits now) : (g.stopLater final).fits now := by
  unfold Generator.stopLater
  split
  · next hrun =>
    obtain ⟨hactive, hshadow, -, hgrid⟩ := h
    exact ⟨hactive, hshadow, (fun hoff => nomatch hrun.symm.trans hoff), hgrid⟩
  · exact h

/-- A period start that has come leaves a generator that fits: the next one lies one period on (R101). -/
theorem Generator.fits.beginPeriod (h : g.fits now) (hrun : g.running = true)
    (hcome : g.nextStart ≤ now.toNat) : g.beginPeriod.fits now := by
  obtain ⟨hactive, hshadow, -, hrunning⟩ := h
  obtain ⟨hstart, hafter, hgrid⟩ := hrunning hrun
  unfold Generator.beginPeriod
  split
  · have hnext : (BitVec.ofNat 56 g.nextStart).toNat = g.nextStart :=
      toNat_time (hcome.trans (time_le_maxTime now))
    refine ⟨hshadow, hshadow, fun hoff => by simp [hrun] at hoff, fun _ => ?_⟩
    simp only [hnext]
    refine ⟨hcome, Nat.lt_add_of_pos_right (period_pos hshadow), ?_⟩
    rw [Nat.add_sub_cancel_left, Nat.mod_self]
  · refine ⟨hactive, hshadow, fun hoff => by simp [hrun] at hoff, fun _ => ⟨hstart, ?_, ?_⟩⟩
    · exact hafter.trans_le (Nat.le_add_right _ _)
    · simp only
      rw [Nat.sub_add_comm hafter.le, Nat.add_mod_right]
      exact hgrid

/-- The grid point a step leads to lies after the start time where the step passed the one before (R106). -/
theorem Generator.fits.overtaken {x : Nat} (h : g.fits now) : (g.overtaken x).fits now := by
  obtain ⟨hactive, hshadow, hstopped, hrunning⟩ := h
  unfold Generator.overtaken
  split
  · next hpassed =>
    obtain ⟨hstart, hafter, -⟩ := hrunning hpassed.1
    have hperiod := period_pos hactive
    refine ⟨hactive, hshadow, hstopped, fun _ => ⟨hstart, ?_, ?_⟩⟩
    · have hquot : 0 < (x - g.start.toNat + (g.active.period.toNat - 1)) / g.active.period.toNat :=
        Nat.div_pos (by omega) hperiod
      exact Nat.lt_add_of_pos_right (Nat.mul_pos hquot hperiod)
    · simp only [gridFrom, Nat.add_sub_cancel_left]
      exact Nat.mul_mod_left _ _
  · exact ⟨hactive, hshadow, hstopped, hrunning⟩

theorem generator_reset_fits : Generator.reset.fits now :=
  ⟨by decide, by decide, fun _ => ⟨rfl, rfl, rfl⟩, fun hrun => by cases hrun⟩

/-! ### All generators -/

/-- Every generator fits at the integer `now`. -/
def GensFit (gens : Vector Generator 16) (now : Time) : Prop := ∀ n : Fin 16, Generator.fits gens[n] now

theorem GensFit.onGens {l : LineUnit} {m : LineMask} {f : Generator → Generator} (h : GensFit l.gens now)
    (hf : ∀ n : Fin 16, m.getLsbD n = true → Generator.fits l.gens[n] now → (f l.gens[n]).fits now) :
    GensFit (l.onGens m f).gens now := by
  intro n
  rw [onGens_getElem]
  split
  · next hm => exact hf n hm (h n)
  · exact h n

/-- The lines of the fault, of a stop, and of every firing leave generators that fit (R72, R97 to R104). -/
theorem GensFit.fire {l : LineUnit} {a : Action} {due : Time} (m : LineMask) (h : GensFit l.gens now)
    (ha : a.inRange = true) (hdue : due.toNat ≤ now.toNat) : GensFit (l.fire a m due now).lines.gens now := by
  cases a with
  | patternLoad p => exact h.onGens fun _ _ hg => hg.load ha
  | patternStart => exact h.onGens fun _ _ hg => hg.startAt hdue
  | patternStop mode final =>
    cases mode with
    | now => exact h.onGens fun _ _ hg => hg.stopped
    | atBoundary => exact h.onGens fun _ _ hg => hg.stopLater final
  | _ => exact h

theorem gensFit_reset : GensFit LineUnit.reset.gens now := by
  intro n
  have hn : LineUnit.reset.gens[n] = Generator.reset := by simp [LineUnit.reset]
  rw [hn]
  exact generator_reset_fits

/-- A taking leaves generators that fit: the entry taken is due, and its parameters are in range. -/
theorem GensFit.taking {s : State} (htable : EntriesFit s.table.entries)
    (h : GensFit s.lines.gens s.timebase.integer) : GensFit (taking s).lines.gens s.timebase.integer := by
  obtain hsame | ⟨e, rest, hsel, hcases⟩ := taking_cases s
  · rwa [hsame]
  · obtain ⟨hdue, hperm, -, -⟩ := selectEntry_some hsel
    obtain ⟨-, hentries, -⟩ := htable
    obtain ⟨-, hrange, -, -⟩ := entry_fits_iff.mp (hentries e (hperm.mem_iff.mpr List.mem_cons_self))
    obtain ⟨-, -, hgens, -⟩ | ⟨-, -, hgens, -⟩ | ⟨-, -, hgens, -⟩ := hcases
    all_goals rw [hgens]
    · exact h.fire (a := .trail) e.lines rfl hdue
    · exact h
    · exact h.fire e.lines hrange hdue

/-! ### What each row keeps -/

theorem generatorInv_of_within {b : Footprint} {s t : State} (h : Within b s t) (hg : b.gens = false)
    (hi : b.integer = false) (hs : GeneratorInv s) : GeneratorInv t := by
  intro n
  rw [h.gens hg, h.integer hi]
  exact hs n

theorem generatorInv_of_reset {t : State} (h : t.lines.gens = LineUnit.reset.gens) : GeneratorInv t := by
  intro n
  rw [h]
  exact gensFit_reset n

/-- Generators that fit, put into the part at the same integer. -/
theorem generatorInv_of_gens {s t : State} {gens : Vector Generator 16} (hgens : t.lines.gens = gens)
    (hi : t.timebase.integer = s.timebase.integer) (h : GensFit gens s.timebase.integer) : GeneratorInv t := by
  intro n
  rw [hgens, hi]
  exact h n

/-- The integer rises and no generator changes. -/
theorem generatorInv_of_le {s t : State} (hs : GeneratorInv s) (hgens : t.lines.gens = s.lines.gens)
    (hle : s.timebase.integer.toNat ≤ t.timebase.integer.toNat) : GeneratorInv t := by
  intro n
  rw [hgens]
  exact (hs n).mono hle

theorem writeRegister_generatorInv {s : State} (r : Reg) (v : Word) (h : GeneratorInv s) :
    GeneratorInv (writeRegister r v s) := by
  cases r with
  | control =>
    simp only [writeRegister, writeControl]
    split
    · exact generatorInv_of_reset rfl
    · unfold storeMasterEnable
      split <;> exact h
  | _ => exact generatorInv_of_within (writeRegister_within _ v s) rfl rfl h

theorem timeStepOwner_generatorInv {s : State} (w : Words8) (h : GeneratorInv s) :
    GeneratorInv (timeStepOwner w s).1 := by
  obtain hsame | ⟨x, hle, hx, hlines⟩ := timeStepOwner_cases w s
  · rwa [hsame]
  · intro n
    have hn : (timeStepOwner w s).1.lines.gens[n] = (s.lines.gens[n]).overtaken x := by
      rw [hlines]
      simp [LineUnit.overtaken]
    rw [hn]
    exact (h n).overtaken.mono (hle.trans hx.ge)

theorem timeSetOwner_generatorInv {s : State} (w : Words8) (h : GeneratorInv s) :
    GeneratorInv (timeSetOwner w s).1 := by
  obtain hsame | ⟨-, hmask, hlines⟩ := timeSetOwner_cases w s
  · rwa [hsame]
  · intro n
    have hstopped : (s.lines.gens[n]).running = false := by
      rw [← getLsbD_patternMask, hmask]
      simp
    rw [hlines]
    exact (h n).of_stopped hstopped _

theorem periodStart_generatorInv {s : State} (n : Fin 16) (h : GeneratorInv s) :
    GeneratorInv (periodStart n s) := by
  simp only [periodStart]
  split
  · next hreached =>
    split
    · refine generatorInv_of_gens (gens := (s.lines.onGens (lineBit n) Generator.stopped).gens) ?_ ?_
        (.onGens h fun _ _ hg => hg.stopped)
      · rw [boundaryStop_lines]
      · rw [boundaryStop_timebase]
    · refine generatorInv_of_gens (s := s) rfl rfl (.onGens h fun k hk hg => ?_)
      rw [getLsbD_lineBit, decide_eq_true_eq] at hk
      obtain rfl : k = n := Fin.ext hk
      exact hg.beginPeriod hreached.1 hreached.2
  · exact h

theorem sampleFaultN_generatorInv {s : State} (asserted : Bool) (h : GeneratorInv s) :
    GeneratorInv (sampleFaultN asserted s) := by
  unfold sampleFaultN
  split
  · exact generatorInv_of_gens (s := s) (gens := (s.lines.onGens s.lines.patternMask Generator.stopped).gens)
      rfl rfl (.onGens h fun _ _ hg => hg.stopped)
  · exact h

/-- Every row keeps both the table invariant and the generator invariant. -/
theorem exec_generatorInv (c : Instr) (s t : State) (hs : TableInv s ∧ GeneratorInv s)
    (h : exec c s = .next t) : TableInv t ∧ GeneratorInv t := by
  refine ⟨exec_tableInv c s t hs.1 h, ?_⟩
  obtain ⟨htable, hs⟩ := hs
  have hwithin := exec_within h
  cases hw : rowWrite c with
  | some rv =>
    rw [exec_of_writes hw] at h
    exact keeps_of_live h hs (writeRegister_generatorInv rv.1 rv.2 hs)
  | none =>
    simp only [rowFootprint, hw] at hwithin
    cases c with
    | powerOnReset =>
      obtain rfl := Host.Outcome.next.inj h
      exact generatorInv_of_reset rfl
    | timebaseAdvance =>
      exact keeps_of_live h hs
        (generatorInv_of_le hs ((advance_within s).gens rfl) (advance_integer_le s))
    | timeStep => exact keeps_of_taken h (fun _ _ hu => hu) hs fun w => timeStepOwner_generatorInv w hs
    | timeSet => exact keeps_of_taken h (fun _ _ hu => hu) hs fun w => timeSetOwner_generatorInv w hs
    | taking =>
      refine keeps_of_live h hs fun n => ?_
      rw [(taking_within s).integer rfl]
      exact GensFit.taking (tableInv_iff.mp htable).1 hs n
    | periodStartEvent n => exact keeps_of_live h hs (periodStart_generatorInv n hs)
    | faultLatch => exact keeps_of_live h hs (sampleFaultN_generatorInv true hs)
    | faultNSeenChange asserted => exact keeps_of_live h hs (sampleFaultN_generatorInv asserted hs)
    | _ => exact generatorInv_of_within hwithin rfl rfl hs

/-- Settles O5: with the table invariant, which bounds the pairs that entries load, every row keeps it. -/
theorem generatorInvariantIsKept : Obligations.GeneratorInvariantIsKept :=
  fun _ _ htable hs h =>
    (step_keeps (P := fun s => TableInv s ∧ GeneratorInv s) (fun _ _ hs => hs) exec_generatorInv
      ⟨htable, hs⟩ h).2

end Sys2Proof.Machine
end

section
/-! PROOFS. The notice queue, the capture log and the coalescing numbers (R116, R131 to R135, R148; O6, O45). -/

namespace Sys2Proof.Machine

/-! ### A notice offered -/

/-- A saturating increment, with the top written as a number. -/
theorem satInc_eq {w : Nat} (x : BitVec w) : satInc x = if x.toNat = 2 ^ w - 1 then x else x + 1 := by
  have htop : x = BitVec.allOnes w ↔ x.toNat = 2 ^ w - 1 := by
    rw [← BitVec.toNat_inj, BitVec.toNat_allOnes]
  simp only [satInc, htop]

/-- Settles O45: an offer looks at the room in the queue alone. -/
theorem offeredNoticeIsQueuedOrCounted : Obligations.OfferedNoticeIsQueuedOrCounted := by
  intro s b
  refine ⟨fun hroom => ?_, fun hfull => ?_⟩
  · rw [offer_eq, offer_of_room _ hroom]
    simp [InterruptUnit.setIf, Nat.not_le.mpr hroom]
  · rw [offer_eq, offer_of_full _ (Nat.not_lt.mpr hfull), satInc_eq]
    simp [InterruptUnit.setIf, hfull]

/-! ### The report unit's half -/

/-- The words of the report unit that the invariant speaks of. -/
def ReportUnit.queueWords (u : ReportUnit) : List Notice × BitVec 32 × Nat × Nat × Nat :=
  (u.notices, u.noticeLoss, u.threshold, u.delay, u.count)

/-- The report unit's half of the invariant. -/
structure QueueFits (u : ReportUnit) : Prop where
  bounded : u.notices.length ≤ Config.noticeSlots
  fullWhileLossy : u.noticeLoss ≠ 0 → u.notices.length = Config.noticeSlots
  thresholdLow : 1 ≤ u.threshold
  thresholdHigh : u.threshold ≤ 255
  delay : u.delay ≤ Config.maxDelay
  count : u.count < u.threshold

theorem queueInv_iff {s : State} :
    QueueInv s ↔ QueueFits s.report ∧ s.capture.log.length ≤ Config.logSlots := by
  constructor
  · rintro ⟨hbounded, hlossy, hlog, hlow, hhigh, hdelay, hcount⟩
    exact ⟨⟨hbounded, hlossy, hlow, hhigh, hdelay, hcount⟩, hlog⟩
  · rintro ⟨⟨hbounded, hlossy, hlow, hhigh, hdelay, hcount⟩, hlog⟩
    exact ⟨hbounded, hlossy, hlog, hlow, hhigh, hdelay, hcount⟩

variable {u v : ReportUnit}

/-- The invariant says nothing of the ring. -/
theorem QueueFits.congr (h : QueueFits u) (hwords : v.queueWords = u.queueWords) : QueueFits v := by
  simp only [ReportUnit.queueWords, Prod.mk.injEq] at hwords
  obtain ⟨hnotices, hloss, hthreshold, hdelay, hcount⟩ := hwords
  obtain ⟨h1, h2, h3, h4, h5, h6⟩ := h
  constructor <;> simp only [hnotices, hloss, hthreshold, hdelay, hcount] <;> assumption

theorem QueueFits.offer (n : Notice) (h : QueueFits u) : QueueFits (u.offer n) := by
  obtain ⟨hbounded, hlossy, hlow, hhigh, hdelay, hcount⟩ := h
  by_cases hroom : u.notices.length < Config.noticeSlots
  · rw [offer_of_room n hroom]
    refine ⟨?_, fun hloss => absurd (hlossy hloss) hroom.ne, hlow, hhigh, hdelay, hcount⟩
    rw [List.length_append]
    exact hroom
  · rw [offer_of_full n hroom]
    exact ⟨hbounded, fun _ => Nat.le_antisymm hbounded (Nat.not_lt.mp hroom), hlow, hhigh, hdelay, hcount⟩

/-- The head notice leaves, and a loss counted takes the slot it frees (R134). -/
theorem QueueFits.removeNotice (now : Time) (h : QueueFits u) : QueueFits (u.removeNotice now) := by
  obtain ⟨hbounded, hlossy, hlow, hhigh, hdelay, hcount⟩ := h
  unfold ReportUnit.removeNotice
  split
  · next hloss =>
    exact ⟨by simp only [List.length_tail]; omega, fun hne => absurd hloss hne, hlow, hhigh, hdelay, hcount⟩
  · next hloss =>
    have hfull := hlossy hloss
    have hslots : Config.noticeSlots = 32 := rfl
    exact ⟨by simp only [List.length_append, List.length_tail, List.length_singleton]; omega,
      fun hne => absurd rfl hne, hlow, hhigh, hdelay, hcount⟩

/-- A count below the threshold, put in. -/
theorem QueueFits.withCount {n : Nat} {x : Time} (h : QueueFits u) (hn : n < u.threshold) :
    QueueFits { u with count := n, waitStart := x } :=
  ⟨h.bounded, h.fullWhileLossy, h.thresholdLow, h.thresholdHigh, h.delay, hn⟩

theorem QueueFits.signalled {s : State} (h : QueueFits s.report) : QueueFits (signalReport s).report :=
  h.withCount h.thresholdLow

/-- A delivered record counted stays below the threshold, or signals (R148). -/
theorem QueueFits.counted {s : State} (h : QueueFits s.report) : QueueFits (countDelivered s).report := by
  unfold countDelivered
  split
  · exact h.withCount h.thresholdLow
  · next hbelow => exact h.withCount (Nat.not_le.mp hbelow)

theorem QueueFits.expired {s : State} (h : QueueFits s.report) : QueueFits (coalesceExpiry s).report := by
  unfold coalesceExpiry
  split
  · exact h.signalled
  · exact h

/-- A write of REPORT_COAL leaves numbers in range, and a count that reaches the new threshold signals (R150). -/
theorem QueueFits.writeCoal {s : State} (x : Word) (h : QueueFits s.report) :
    QueueFits (writeReportCoal x s).report := by
  have hbyte := (x.extractLsb' 0 8).isLt
  have hhigh : max 1 (x.extractLsb' 0 8).toNat ≤ 255 := by omega
  have hstored : ∀ n, n < max 1 (x.extractLsb' 0 8).toNat →
      QueueFits { s.report.setCoal x with count := n } := fun n hn =>
    ⟨h.bounded, h.fullWhileLossy, Nat.le_max_left _ _, hhigh, Nat.min_le_right _ _, hn⟩
  simp only [writeReportCoal]
  split
  · exact hstored 0 (Nat.lt_of_lt_of_le Nat.one_pos (Nat.le_max_left _ _))
  · next hbelow =>
    exact QueueFits.expired (hstored s.report.count (Nat.not_le.mp hbelow))

/-! ### The ring's operations leave the queue -/

@[simp] theorem evaluateIfOn_queueWords (u : ReportUnit) : u.evaluateIfOn.queueWords = u.queueWords := by
  unfold ReportUnit.evaluateIfOn
  split <;> rfl

@[simp] theorem endWrite_queueWords (u : ReportUnit) : u.endWrite.queueWords = u.queueWords := by
  unfold ReportUnit.endWrite
  split <;> rfl

@[simp] theorem turnOn_queueWords (master : Bool) (u : ReportUnit) :
    (u.turnOn master).queueWords = u.queueWords := by
  unfold ReportUnit.turnOn
  split
  · split <;> rfl
  · rfl

@[simp] theorem turnOff_queueWords (u : ReportUnit) : u.turnOff.queueWords = u.queueWords := by
  unfold ReportUnit.turnOff
  split
  · rfl
  · rfl
  all_goals split <;> rfl

@[simp] theorem writeRing_queueWords (f : Ring → Ring) (u : ReportUnit) :
    (u.writeRing f).queueWords = u.queueWords := by
  unfold ReportUnit.writeRing
  split <;> rfl

theorem queueFits_reset (r : Ring) : QueueFits { ReportUnit.reset with ring := r } := by
  constructor <;> simp [ReportUnit.reset]

/-- A delivery leaves a queue, a log and a count that fit (R134, R140, R148). -/
theorem QueueFits.delivered {s : State} (src : Source) (h : QueueFits s.report) :
    QueueFits (deliverRecord src s).report := by
  have hremoved : QueueFits (removeRecord src s).report := by
    cases src with
    | notice => exact h.removeNotice _
    | capture => exact h
  have hdelivered : QueueFits (onReport (ReportUnit.deliver src) (removeRecord src s)).report := hremoved.congr rfl
  exact hdelivered.counted.congr ((endWrite_queueWords _).trans (evaluateIfOn_queueWords _))

theorem countDelivered_capture (s : State) : (countDelivered s).capture = s.capture := by
  unfold countDelivered
  split <;> rfl

/-- A delivery does not lengthen the capture log. -/
theorem deliverRecord_log_le (src : Source) (s : State) :
    (deliverRecord src s).capture.log.length ≤ s.capture.log.length := by
  simp only [deliverRecord, onReport_capture, countDelivered_capture]
  cases src with
  | notice => exact Nat.le_refl _
  | capture => simp [removeRecord]

/-! ### What each row keeps -/

theorem queueInv_of_within {b : Footprint} {s t : State} (h : Within b s t) (hr : b.report = false)
    (hl : b.log = false) (hs : QueueInv s) : QueueInv t := by
  rw [queueInv_iff] at hs ⊢
  rw [h.log hl]
  exact ⟨(h.report hr).keeps (fun _ n hu => hu.offer n) hs.1, hs.2⟩

/-- A change of the report unit that fits, with the log as it was. -/
theorem queueInv_of_report {s t : State} (hs : QueueInv s) (hlog : t.capture.log = s.capture.log)
    (h : QueueFits s.report → QueueFits t.report) : QueueInv t := by
  rw [queueInv_iff] at hs ⊢
  rw [hlog]
  exact ⟨h hs.1, hs.2⟩

/-- A change of the ring alone. -/
theorem queueInv_of_words {s t : State} (hs : QueueInv s) (hlog : t.capture.log = s.capture.log)
    (hwords : t.report.queueWords = s.report.queueWords) : QueueInv t :=
  queueInv_of_report hs hlog fun h => h.congr hwords

theorem queueInv_of_reset {t : State} {r : Ring} (hreport : t.report = { ReportUnit.reset with ring := r })
    (hcapture : t.capture = CaptureUnit.reset) : QueueInv t := by
  rw [queueInv_iff, hreport, hcapture]
  exact ⟨queueFits_reset r, Nat.zero_le _⟩

theorem writeRegister_queueInv {s : State} (r : Reg) (v : Word) (h : QueueInv s) :
    QueueInv (writeRegister r v s) := by
  cases r with
  | control =>
    simp only [writeRegister, writeControl]
    split
    · exact queueInv_of_reset rfl rfl
    · unfold storeMasterEnable
      split
      · exact queueInv_of_words h rfl (turnOff_queueWords s.report)
      · exact h
  | reportBase | reportSize | reportProd => exact queueInv_of_words h rfl (writeRing_queueWords _ s.report)
  | reportCons => exact queueInv_of_words h rfl (evaluateIfOn_queueWords _)
  | reportCtrl =>
    simp only [writeRegister, writeReportCtrl]
    split
    · exact queueInv_of_words h rfl (turnOn_queueWords _ s.report)
    · exact queueInv_of_words h rfl (turnOff_queueWords s.report)
  | reportStatus => exact h
  | reportCoal =>
    exact queueInv_of_report h ((writeReportCoal_within v s).log rfl) fun hfits => hfits.writeCoal v
  | _ => exact queueInv_of_within (writeRegister_within _ v s) rfl rfl h

theorem offerRecord_log_le {s : State} (r : CaptureRecord) (h : s.capture.log.length ≤ Config.logSlots) :
    (offerRecord r s).capture.log.length ≤ Config.logSlots := by
  unfold offerRecord
  split
  · next hroom =>
    simp only [List.length_append, List.length_singleton]
    exact hroom
  · exact h

theorem triggerTemplate_capture (n : Fin 8) (x : Time) (s : State) :
    (triggerTemplate n x s).capture = s.capture := by
  simp only [triggerTemplate]
  split
  · split <;> rfl
  all_goals rfl

theorem inputEdge_queueInv {s : State} (n : Fin 8) (e : Edge) (h : QueueInv s) : QueueInv (inputEdge n e s) := by
  rw [queueInv_iff] at h ⊢
  refine ⟨((inputEdge_within n e s).report rfl).keeps (fun _ k hu => hu.offer k) h.1, ?_⟩
  simp only [inputEdge]
  split
  · split
    · split
      · exact h.2
      · simp only [acceptEdge, triggerTemplate_capture]
        exact offerRecord_log_le _ h.2
    · exact h.2
  · exact h.2

theorem discardEmptiedWrite_queueInv {s : State} (h : QueueInv s) : QueueInv (discardEmptiedWrite s) := by
  unfold discardEmptiedWrite
  split <;> exact h

theorem reportWriteStart_queueInv {s : State} (h : QueueInv s) : QueueInv (reportWriteStart s) := by
  unfold reportWriteStart
  split
  · exact h
  · split <;> exact h

theorem reportWriteDone_queueInv {s : State} (h : QueueInv s) : QueueInv (reportWriteDone s) := by
  unfold reportWriteDone
  split
  · split
    · exact h
    · split
      · next src _ =>
        rw [queueInv_iff] at h ⊢
        exact ⟨QueueFits.delivered src h.1, (deliverRecord_log_le src _).trans h.2⟩
      · exact h
  · exact discardEmptiedWrite_queueInv h

theorem reportWriteError_queueInv {s : State} (h : QueueInv s) : QueueInv (reportWriteError s) := by
  unfold reportWriteError
  split
  · split
    · exact h
    · split
      · simp only [failWrite]
        split <;> exact h
      · exact h
  · exact discardEmptiedWrite_queueInv h

/-- Every row keeps the queue invariant. -/
theorem exec_queueInv (c : Instr) (s t : State) (hs : QueueInv s) (h : exec c s = .next t) : QueueInv t := by
  have hwithin := exec_within h
  cases hw : rowWrite c with
  | some rv =>
    rw [exec_of_writes hw] at h
    exact keeps_of_live h hs (writeRegister_queueInv rv.1 rv.2 hs)
  | none =>
    simp only [rowFootprint, hw] at hwithin
    cases c with
    | powerOnReset =>
      obtain rfl := Host.Outcome.next.inj h
      exact queueInv_of_reset rfl rfl
    | inputEdge n e => exact keeps_of_live h hs (inputEdge_queueInv n e hs)
    | reportWriteStart => exact keeps_of_live h hs (reportWriteStart_queueInv hs)
    | reportWriteDone =>
      obtain rfl := Host.Outcome.next.inj h
      exact reportWriteDone_queueInv hs
    | reportWriteError =>
      obtain rfl := Host.Outcome.next.inj h
      exact reportWriteError_queueInv hs
    | coalesceExpiry =>
      refine keeps_of_live h hs (queueInv_of_report hs ?_ fun hfits => hfits.expired)
      exact (coalesceExpiry_within (b := { report := true }) rfl).log rfl
    | _ => exact queueInv_of_within hwithin rfl rfl hs

/-- Settles O6: every row keeps the invariant, so every step does. -/
theorem queueInvariantIsKept : Obligations.QueueInvariantIsKept :=
  fun _ _ hs h => step_keeps (P := QueueInv) (fun _ _ hs => hs) exec_queueInv hs h

end Sys2Proof.Machine
end

section
/-! PROOFS. The words of the two rings and the requested addresses (R142, R153, R189; O7). -/

namespace Sys2Proof.Machine

/-! ### One ring -/

/-- The words of a ring that the invariant speaks of. -/
def Ring.words (r : Ring) : Word × Nat × Nat × Nat := (r.base, r.size, r.prod, r.cons)

variable {r q : Ring}

/-- The invariant says nothing of a ring's flags and marks. -/
theorem Ring.fits.congr (h : r.fits) (hwords : q.words = r.words) : q.fits := by
  simp only [Ring.words, Prod.mk.injEq] at hwords
  obtain ⟨hbase, hsize, hprod, hcons⟩ := hwords
  simpa only [Ring.fits, hbase, hsize, hprod, hcons] using h

/-- A ring size is positive. -/
theorem ringSize_pos {n : Nat} (h : n ∈ Config.ringSizes) : 0 < n := by
  simp only [Config.ringSizes, List.mem_cons, List.not_mem_nil, or_false] at h
  omega

theorem ring_reset_fits (abandoned : Bool) : Ring.fits { Ring.reset with abandoned := abandoned } := by
  refine ⟨?_, ?_, ?_, ?_⟩ <;> simp [Ring.reset, Config.ringSizes]

/-- A stored base is a multiple of 64 (R142, R153). -/
theorem base_aligned (v : Word) : (v &&& 0xFFFFFFC0#32).toNat % 64 = 0 := by
  have hbits : (v &&& 0xFFFFFFC0#32) &&& 63#32 = 0#32 := by
    rw [BitVec.and_assoc]
    exact BitVec.and_zero
  have hnat := congrArg BitVec.toNat hbits
  rw [BitVec.toNat_and] at hnat
  exact (Nat.and_two_pow_sub_one_eq_mod _ 6).symm.trans hnat

theorem Ring.fits.setBase (v : Word) (h : r.fits) : (r.setBase v).fits := by
  obtain ⟨hsize, hprod, hcons, -⟩ := h
  exact ⟨hsize, hprod, hcons, base_aligned v⟩

theorem Ring.fits.setSize (v : Word) (h : r.fits) : (r.setSize v).fits := by
  unfold Ring.setSize
  split
  · next hsize =>
    obtain ⟨-, -, -, hbase⟩ := h
    exact ⟨hsize, ringSize_pos hsize, ringSize_pos hsize, hbase⟩
  · exact h

theorem Ring.fits.setProd (v : Word) (h : r.fits) : (r.setProd v).fits := by
  obtain ⟨hsize, -, hcons, hbase⟩ := h
  exact ⟨hsize, Nat.mod_lt _ (ringSize_pos hsize), hcons, hbase⟩

theorem Ring.fits.setCons (v : Word) (h : r.fits) : (r.setCons v).fits := by
  obtain ⟨hsize, hprod, -, hbase⟩ := h
  exact ⟨hsize, hprod, Nat.mod_lt _ (ringSize_pos hsize), hbase⟩

/-- The producer index moved on (R140). -/
theorem Ring.fits.produced (h : r.fits) : Ring.fits { r with prod := r.after r.prod } := by
  obtain ⟨hsize, -, hcons, hbase⟩ := h
  exact ⟨hsize, Nat.mod_lt _ (ringSize_pos hsize), hcons, hbase⟩

/-- The consumer index moved on (R155). -/
theorem Ring.fits.consumed (h : r.fits) : Ring.fits { r with cons := r.after r.cons } := by
  obtain ⟨hsize, hprod, -, hbase⟩ := h
  exact ⟨hsize, hprod, Nat.mod_lt _ (ringSize_pos hsize), hbase⟩

/-- The address of a slot is a multiple of 32 (R138, R157, R189). -/
theorem Ring.fits.address_aligned (i : Nat) (h : r.fits) : (r.address i).toNat % 32 = 0 := by
  obtain ⟨-, -, -, hbase⟩ := h
  rw [Ring.address, BitVec.toNat_add, BitVec.toNat_ofNat]
  omega

/-! ### Operations of the report unit -/

variable {u : ReportUnit}

@[simp] theorem evaluateIfOn_ring (u : ReportUnit) : u.evaluateIfOn.ring = u.ring := by
  unfold ReportUnit.evaluateIfOn
  split <;> rfl

theorem endWrite_words (u : ReportUnit) : u.endWrite.ring.words = u.ring.words := by
  unfold ReportUnit.endWrite
  split <;> rfl

theorem turnOn_words (master : Bool) (u : ReportUnit) : (u.turnOn master).ring.words = u.ring.words := by
  unfold ReportUnit.turnOn
  split
  · split <;> rfl
  · rfl

theorem turnOff_words (u : ReportUnit) : u.turnOff.ring.words = u.ring.words := by
  unfold ReportUnit.turnOff
  split
  · rfl
  · rfl
  all_goals split <;> rfl

theorem Ring.fits.writeReport {f : Ring → Ring} (hf : ∀ r : Ring, r.fits → (f r).fits) (h : u.ring.fits) :
    (u.writeRing f).ring.fits := by
  unfold ReportUnit.writeRing
  split
  · exact hf _ h
  · exact h

theorem offer_ring (u : ReportUnit) (n : Notice) : (u.offer n).ring = u.ring := (offer_keeps u n).2.1

/-! ### Operations of the admission ring engine -/

variable {a : AdmissionRing}

theorem aringTurnOn_words (master : Bool) (a : AdmissionRing) : (a.turnOn master).ring.words = a.ring.words := by
  unfold AdmissionRing.turnOn
  split
  · split <;> rfl
  · rfl

theorem aringTurnOff_words (a : AdmissionRing) : a.turnOff.ring.words = a.ring.words := by
  unfold AdmissionRing.turnOff
  split <;> rfl

theorem receive_words (data : Words8) (a : AdmissionRing) : (a.receive data).ring.words = a.ring.words := by
  unfold AdmissionRing.receive
  split <;> rfl

theorem Ring.fits.writeAring {f : Ring → Ring} (hf : ∀ r : Ring, r.fits → (f r).fits) (h : a.ring.fits) :
    (a.writeRing f).ring.fits := by
  unfold AdmissionRing.writeRing
  split
  · exact hf _ h
  · exact h

theorem Ring.fits.writeProd (v : Word) (h : a.ring.fits) : (a.writeProd v).ring.fits := by
  simp only [AdmissionRing.writeProd]
  split <;> exact h.setProd v

theorem RetriesOnly.ring {b : AdmissionRing} (h : RetriesOnly a b) : b.ring = a.ring := by
  obtain rfl | ⟨-, rfl⟩ := h <;> rfl

/-! ### What each row keeps -/

/-- The requested addresses are multiples of 32. -/
def SlotsAligned (b : BusInterface) : Prop :=
  b.admissionSlot.all (fun a => a.toNat % 32 == 0) = true
    ∧ b.reportSlot.all (fun q => q.address.toNat % 32 == 0) = true

theorem ringInv_iff {s : State} :
    RingInv s ↔ s.report.ring.fits ∧ s.aring.ring.fits ∧ SlotsAligned s.bus := Iff.rfl

/-- Equal traffic, equal requests. -/
theorem slotsAligned_of_traffic {b c : BusInterface} (h : c.traffic = b.traffic) (hb : SlotsAligned b) :
    SlotsAligned c := by
  simp only [BusInterface.traffic, Prod.mk.injEq] at h
  obtain ⟨-, ha, hr, -⟩ := h
  simpa only [SlotsAligned, ha, hr] using hb

theorem ringInv_of_within {b : Footprint} {s t : State} (h : Within b s t) (hr : b.report = false)
    (ha : b.aring = false) (ht : b.traffic = false) (hs : RingInv s) : RingInv t := by
  obtain ⟨hreport, haring, hslots⟩ := ringInv_iff.mp hs
  refine ringInv_iff.mpr ⟨(h.report hr).keeps (P := fun u => u.ring.fits) (fun u n hu => ?_) hreport, ?_,
    slotsAligned_of_traffic (h.traffic ht) hslots⟩
  · rwa [offer_ring]
  · rwa [(h.aring ha).ring]

/-- A change of the report unit alone. -/
theorem ringInv_of_report {s t : State} (hs : RingInv s) (h : s.report.ring.fits → t.report.ring.fits)
    (ha : t.aring = s.aring) (hb : t.bus = s.bus) : RingInv t := by
  rw [ringInv_iff] at hs ⊢
  rw [ha, hb]
  exact ⟨h hs.1, hs.2⟩

/-- A change of the admission ring engine, with notices offered. -/
theorem ringInv_of_aring {s t : State} (hs : RingInv s) (h : s.aring.ring.fits → t.aring.ring.fits)
    (hr : t.report.ring = s.report.ring) (hb : t.bus = s.bus) : RingInv t := by
  obtain ⟨hreport, haring, hslots⟩ := ringInv_iff.mp hs
  rw [ringInv_iff, hr, hb]
  exact ⟨hreport, h haring, hslots⟩

/-- Both rings at their reset values, with requests that are those of before or none. -/
theorem ringInv_of_reset {s t : State} {x y : Bool} (hs : RingInv s)
    (hr : t.report.ring = { Ring.reset with abandoned := x })
    (ha : t.aring.ring = { Ring.reset with abandoned := y })
    (hadm : ∀ a, t.bus.admissionSlot = some a → s.bus.admissionSlot = some a)
    (hrep : ∀ q, t.bus.reportSlot = some q → s.bus.reportSlot = some q) : RingInv t := by
  rw [ringInv_iff] at hs ⊢
  obtain ⟨-, -, hadmS, hrepS⟩ := hs
  rw [hr, ha]
  refine ⟨ring_reset_fits x, ring_reset_fits y, ?_, ?_⟩
  · cases hslot : t.bus.admissionSlot with
    | none => rfl
    | some a => rwa [hadm a hslot] at hadmS
  · cases hslot : t.bus.reportSlot with
    | none => rfl
    | some q => rwa [hrep q hslot] at hrepS

theorem writeRegister_ringInv {s : State} (r : Reg) (v : Word) (h : RingInv s) :
    RingInv (writeRegister r v s) := by
  cases r with
  | control =>
    have hstored : RingInv (storeMasterEnable (v.getLsbD 0) s) := by
      unfold storeMasterEnable
      split
      · obtain ⟨hreport, haring, hslots⟩ := h
        exact ⟨hreport.congr (turnOff_words s.report), haring.congr (aringTurnOff_words s.aring), hslots⟩
      · exact h
    simp only [writeRegister, writeControl]
    split
    · exact ringInv_of_reset hstored rfl rfl (fun _ ha => ha) fun _ hq => hq
    · exact hstored
  | reportBase => exact ringInv_of_report h (fun hr => hr.writeReport fun _ hq => hq.setBase v) rfl rfl
  | reportSize => exact ringInv_of_report h (fun hr => hr.writeReport fun _ hq => hq.setSize v) rfl rfl
  | reportProd => exact ringInv_of_report h (fun hr => hr.writeReport fun _ hq => hq.setProd v) rfl rfl
  | reportCons =>
    refine ringInv_of_report h (fun hr => ?_) rfl rfl
    have hring : (writeRegister .reportCons v s).report.ring = s.report.ring.setCons v := evaluateIfOn_ring _
    rw [hring]
    exact hr.setCons v
  | reportCtrl =>
    simp only [writeRegister, writeReportCtrl]
    split
    · exact ringInv_of_report h (fun hr => hr.congr (turnOn_words _ s.report)) rfl rfl
    · exact ringInv_of_report h (fun hr => hr.congr (turnOff_words s.report)) rfl rfl
  | reportStatus => exact h
  | reportCoal =>
    have hring : (writeReportCoal v s).report.ring = s.report.ring := by
      simp only [writeReportCoal]
      split
      · rfl
      · unfold coalesceExpiry
        split <;> rfl
    obtain ⟨ha, hb⟩ : (writeReportCoal v s).aring = s.aring ∧ (writeReportCoal v s).bus = s.bus := by
      simp only [writeReportCoal]
      split
      · exact ⟨rfl, rfl⟩
      · unfold coalesceExpiry
        split <;> exact ⟨rfl, rfl⟩
    exact ringInv_of_report h (fun hr => hr.congr (congrArg Ring.words hring)) ha hb
  | aringBase => exact ringInv_of_aring h (fun hr => hr.writeAring fun _ hq => hq.setBase v) rfl rfl
  | aringSize => exact ringInv_of_aring h (fun hr => hr.writeAring fun _ hq => hq.setSize v) rfl rfl
  | aringCons => exact ringInv_of_aring h (fun hr => hr.writeAring fun _ hq => hq.setCons v) rfl rfl
  | aringProd => exact ringInv_of_aring h (fun hr => hr.writeProd v) rfl rfl
  | aringCtrl =>
    simp only [writeRegister, writeAringCtrl]
    split
    · exact ringInv_of_aring h (fun hr => hr.congr (aringTurnOn_words _ s.aring)) rfl rfl
    · exact ringInv_of_aring h (fun hr => hr.congr (aringTurnOff_words s.aring)) rfl rfl
  | aringStatus => exact h
  | _ => exact ringInv_of_within (writeRegister_within _ v s) rfl rfl rfl h

theorem reportWriteStart_ringInv {s : State} (h : RingInv s) : RingInv (reportWriteStart s) := by
  unfold reportWriteStart
  split
  · exact h
  · split
    · obtain ⟨hr, ha, hadm, -⟩ := h
      exact ⟨hr, ha, hadm, beq_iff_eq.mpr (hr.address_aligned _)⟩
    · exact h

theorem releaseReportSlot_ringInv {s : State} (h : RingInv s) : RingInv (releaseReportSlot s) := by
  obtain ⟨hreport, haring, hadmission, -⟩ := h
  exact ⟨hreport, haring, hadmission, rfl⟩

theorem releaseAdmissionSlot_ringInv {s : State} (h : RingInv s) : RingInv (releaseAdmissionSlot s) := by
  obtain ⟨hreport, haring, -, hslot⟩ := h
  exact ⟨hreport, haring, rfl, hslot⟩

@[simp] theorem countDelivered_aring (s : State) : (countDelivered s).aring = s.aring := by
  unfold countDelivered
  split <;> rfl

@[simp] theorem countDelivered_bus (s : State) : (countDelivered s).bus = s.bus := by
  unfold countDelivered
  split <;> rfl

@[simp] theorem countDelivered_ring (s : State) : (countDelivered s).report.ring = s.report.ring := by
  unfold countDelivered
  split <;> rfl

@[simp] theorem removeRecord_aring (src : Source) (s : State) : (removeRecord src s).aring = s.aring := by
  cases src <;> rfl

@[simp] theorem removeRecord_bus (src : Source) (s : State) : (removeRecord src s).bus = s.bus := by
  cases src <;> rfl

@[simp] theorem removeRecord_ring (src : Source) (s : State) :
    (removeRecord src s).report.ring = s.report.ring := by
  cases src with
  | notice =>
    simp only [removeRecord, onReport_report, ReportUnit.removeNotice]
    split <;> rfl
  | capture => rfl

@[simp] theorem deliverRecord_aring (src : Source) (s : State) : (deliverRecord src s).aring = s.aring := by
  simp [deliverRecord]

@[simp] theorem deliverRecord_bus (src : Source) (s : State) : (deliverRecord src s).bus = s.bus := by
  simp [deliverRecord]

theorem deliverRecord_ringInv {s : State} (src : Source) (h : RingInv s) : RingInv (deliverRecord src s) := by
  refine ringInv_of_report h (fun hr => ?_) (deliverRecord_aring src s) (deliverRecord_bus src s)
  refine Ring.fits.congr ?_ (endWrite_words _)
  rw [evaluateIfOn_ring, countDelivered_ring]
  simp only [onReport_report, ReportUnit.deliver, removeRecord_ring]
  exact hr.produced

theorem reportWriteDone_ringInv {s : State} (h : RingInv s) : RingInv (reportWriteDone s) := by
  unfold reportWriteDone
  split
  · have hfreed := releaseReportSlot_ringInv h
    split
    · exact hfreed
    · split
      · exact deliverRecord_ringInv _ hfreed
      · exact hfreed
  · obtain hsame | ⟨-, -, hdiscard⟩ := discardEmptiedWrite_eq s
    · rwa [hsame]
    · rw [hdiscard]
      exact h

theorem reportWriteError_ringInv {s : State} (h : RingInv s) : RingInv (reportWriteError s) := by
  unfold reportWriteError
  split
  · have hfreed := releaseReportSlot_ringInv h
    split
    · exact hfreed
    · split
      · simp only [failWrite]
        split <;> exact hfreed
      · exact hfreed
  · obtain hsame | ⟨-, -, hdiscard⟩ := discardEmptiedWrite_eq s
    · rwa [hsame]
    · rw [hdiscard]
      exact h

theorem fetchStart_ringInv {s : State} (h : RingInv s) : RingInv (fetchStart s) := by
  unfold fetchStart
  split
  · obtain ⟨hr, ha, -, hrep⟩ := h
    exact ⟨hr, ha, beq_iff_eq.mpr (ha.address_aligned _), hrep⟩
  · exact h

theorem fetchDone_ringInv {s : State} (data : Words8) (h : RingInv s) : RingInv (fetchDone data s) := by
  unfold fetchDone
  split
  · have hfreed := releaseAdmissionSlot_ringInv h
    split
    · exact hfreed
    · split
      · exact ringInv_of_aring hfreed (fun ha => ha.congr (receive_words data s.aring)) rfl rfl
      · exact hfreed
  · obtain hsame | ⟨-, -, hdiscard⟩ := discardEmptiedFetch_eq s
    · rwa [hsame]
    · rw [hdiscard]
      exact h

theorem fetchError_ringInv {s : State} (h : RingInv s) : RingInv (fetchError s) := by
  unfold fetchError
  split
  · have hfreed := releaseAdmissionSlot_ringInv h
    split
    · exact hfreed
    · split
      · simp only [failFetch]
        split <;> exact hfreed
      · exact hfreed
  · obtain hsame | ⟨-, -, hdiscard⟩ := discardEmptiedFetch_eq s
    · rwa [hsame]
    · rw [hdiscard]
      exact h

/-- A descriptor finished moves the consumer index on (R155). -/
theorem finish_ringInv {s t : State} (h : RingInv s) (ha : t.aring = s.aring.finish)
    (hr : t.report.ring = s.report.ring) (hb : t.bus = s.bus) : RingInv t :=
  ringInv_of_aring h (fun hring => ha ▸ hring.consumed) hr hb

theorem rejectDescriptor_ringInv {s : State} (w : Words8) (x : ResultCode) (h : RingInv s) :
    RingInv (rejectDescriptor w x s) := finish_ringInv h rfl (offer_ring _ _) rfl

theorem admitDescriptor_ringInv {s : State} (e : Entry) (h : RingInv s) : RingInv (admitDescriptor e s) :=
  finish_ringInv h rfl rfl rfl

theorem descriptorClaim_ringInv {s : State} (h : RingInv s) : RingInv (descriptorClaim s) := by
  unfold descriptorClaim claimDescriptor
  split
  · split
    · split
      · exact admitDescriptor_ringInv _ h
      · exact h
      · exact rejectDescriptor_ringInv _ _ h
    · exact h
  · exact h

theorem retryClaim_ringInv {s : State} (h : RingInv s) : RingInv (retryClaim s) := by
  unfold retryClaim claimHeld
  split
  · split
    · exact admitDescriptor_ringInv _ h
    · exact h
    · exact rejectDescriptor_ringInv _ _ h
  · exact h

theorem burstGrant_ringInv {s : State} (h : RingInv s) : RingInv (burstGrant s) := by
  unfold burstGrant
  split <;> exact h

/-- Every row keeps the ring invariant. -/
theorem exec_ringInv (c : Instr) (s t : State) (hs : RingInv s) (h : exec c s = .next t) : RingInv t := by
  have hwithin := exec_within h
  cases hw : rowWrite c with
  | some rv =>
    rw [exec_of_writes hw] at h
    exact keeps_of_live h hs (writeRegister_ringInv rv.1 rv.2 hs)
  | none =>
    simp only [rowFootprint, hw] at hwithin
    cases c with
    | powerOnReset =>
      obtain rfl := Host.Outcome.next.inj h
      exact ringInv_of_reset hs rfl rfl (fun _ => slotAfterPowerOn_some) fun _ => slotAfterPowerOn_some
    | reportWriteStart => exact keeps_of_live h hs (reportWriteStart_ringInv hs)
    | reportWriteDone => exact Host.Outcome.next.inj h ▸ reportWriteDone_ringInv hs
    | reportWriteError => exact Host.Outcome.next.inj h ▸ reportWriteError_ringInv hs
    | coalesceExpiry =>
      refine keeps_of_live h hs ?_
      unfold coalesceExpiry
      split <;> exact hs
    | fetchStart => exact keeps_of_live h hs (fetchStart_ringInv hs)
    | fetchDone data => exact Host.Outcome.next.inj h ▸ fetchDone_ringInv data hs
    | fetchError => exact Host.Outcome.next.inj h ▸ fetchError_ringInv hs
    | descriptorClaim => exact keeps_of_live h hs (descriptorClaim_ringInv hs)
    | retryClaim => exact keeps_of_live h hs (retryClaim_ringInv hs)
    | burstGrant => exact Host.Outcome.next.inj h ▸ burstGrant_ringInv hs
    | _ => exact ringInv_of_within hwithin rfl rfl rfl hs

/-- Settles O7: every row keeps the invariant, so every step does. -/
theorem ringInvariantIsKept : Obligations.RingInvariantIsKept :=
  fun _ _ hs h => step_keeps (P := RingInv) (fun _ _ hs => hs) exec_ringInv hs h

end Sys2Proof.Machine
end

section
/-! PROOFS. The report ring's invariant (R138, R140, R144 to R146, R152, R188; O8). It is split: what the report
unit's own words agree in, and what its write in flight, or the one a reset abandoned, has at the bus interface.
The register writes touch the first alone; the writer, the completions and the resets touch both. -/

namespace Sys2Proof.Machine

/-! ### The two parts -/

/-- The ring's state, enable and marks agree. -/
structure RingAgrees (u : ReportUnit) : Prop where
  flightOn : u.inFlight.isSome = true → u.state.isOn = true
  pendingFlight : u.ring.disablePending = true → u.inFlight.isSome = true
  enable : u.ring.enable = (u.state != .disabled && !u.ring.disablePending)
  full : u.state.isOn = true → (u.state == .full) = u.ring.isFull
  abandonedOff : u.ring.abandoned = true → u.state = .disabled

/-- The write in flight, or the abandoned one, has its record, its request and its burst. -/
structure WriteAgrees (s : State) : Prop where
  head : s.report.inFlight.all (holdsRecord s) = true
  flightSlot : s.report.inFlight.isSome = true → s.bus.reportSlot.isSome = true
  abandonedSlot : s.report.ring.abandoned = true →
    s.bus.reportSlot.isSome = true ∨ s.bus.onBus = some .report ∨ Config.powerOnWithdraws = true
  owned : s.bus.reportSlot.isSome = true ∨ s.bus.onBus = some .report →
    s.report.inFlight.isSome = true ∨ s.report.ring.abandoned = true

theorem reportInv_iff {s : State} :
    ReportInv s ↔ RingAgrees s.report ∧ (s.report.ring.enable = true → s.bus.masterEnable = true)
      ∧ WriteAgrees s := by
  constructor
  · rintro ⟨h1, h2, h3, h4, h5, h6, h7, h8, h9, h10⟩
    exact ⟨⟨h1, h2, h3, h5, h7⟩, h4, ⟨h6, h8, h9, h10⟩⟩
  · rintro ⟨⟨h1, h2, h3, h5, h7⟩, h4, ⟨h6, h8, h9, h10⟩⟩
    exact ⟨h1, h2, h3, h4, h5, h6, h7, h8, h9, h10⟩

/-! ### The report unit's own words -/

variable {u v : ReportUnit}

/-- The first part says nothing of the queue and the coalescing numbers. -/
theorem RingAgrees.congr (h : RingAgrees u) (hstate : v.state = u.state) (hring : v.ring = u.ring)
    (hflight : v.inFlight = u.inFlight) : RingAgrees v := by
  obtain ⟨h1, h2, h3, h4, h5⟩ := h
  constructor <;> simp only [hstate, hring, hflight] <;> assumption

/-- A ring that is off has no write in flight and no disable pending. -/
theorem RingAgrees.idle_of_off (h : RingAgrees u) (hoff : u.state.isOn = false) :
    u.inFlight = none ∧ u.ring.disablePending = false := by
  have hflight : u.inFlight = none := by
    by_contra hne
    have hon := h.flightOn (Option.isSome_iff_ne_none.mpr hne)
    simp [hoff] at hon
  refine ⟨hflight, Bool.eq_false_of_not_eq_true fun hpending => ?_⟩
  have hsome := h.pendingFlight hpending
  simp [hflight] at hsome

/-- A ring that is on is enabled unless a disable is pending, and no write of it is abandoned. -/
theorem RingAgrees.of_on (h : RingAgrees u) (hon : u.state.isOn = true) :
    u.ring.enable = !u.ring.disablePending ∧ u.ring.abandoned = false := by
  have hne : (u.state != .disabled) = true := by
    cases hstate : u.state <;> simp_all [ReportState.isOn]
  refine ⟨by rw [h.enable, hne, Bool.true_and], Bool.eq_false_of_not_eq_true fun hab => ?_⟩
  simp [h.abandonedOff hab, ReportState.isOn] at hon

/-- A word of the ring written while the ring is DISABLED, its enable and marks as they were (R142). -/
theorem RingAgrees.writeRing {f : Ring → Ring}
    (hf : ∀ r : Ring, (f r).enable = r.enable ∧ (f r).disablePending = r.disablePending
      ∧ (f r).abandoned = r.abandoned) (h : RingAgrees u) : RingAgrees (u.writeRing f) := by
  obtain ⟨henable, hpending, habandoned⟩ := hf u.ring
  obtain ⟨h1, h2, h3, h4, h5⟩ := h
  unfold ReportUnit.writeRing
  split
  · next hoff =>
    refine ⟨h1, by rwa [hpending], by rwa [henable, hpending], fun hon => ?_, by rwa [habandoned]⟩
    simp [hoff.1, ReportState.isOn] at hon
  · exact ⟨h1, h2, h3, h4, h5⟩

/-- The state evaluated from the indices is RUNNING or FULL. -/
theorem evaluate_isOn (u : ReportUnit) : u.evaluate.state.isOn = true := by
  simp only [ReportUnit.evaluate]
  split <;> rfl

theorem evaluate_full (u : ReportUnit) : (u.evaluate.state == .full) = u.evaluate.ring.isFull := by
  simp only [ReportUnit.evaluate]
  split
  · next hfull => rw [hfull]; rfl
  · next hfull => rw [Bool.eq_false_of_not_eq_true hfull]; rfl

theorem evaluate_ne_disabled (u : ReportUnit) : (u.evaluate.state != .disabled) = true := by
  simp only [ReportUnit.evaluate]
  split <;> rfl

/-- New indices in a ring that is on, and its state evaluated from them (R140, R143). -/
theorem RingAgrees.evaluateIfOn {r : Ring} (h : RingAgrees u) (henable : r.enable = u.ring.enable)
    (hpending : r.disablePending = u.ring.disablePending) (habandoned : r.abandoned = u.ring.abandoned) :
    RingAgrees { u with ring := r }.evaluateIfOn := by
  unfold ReportUnit.evaluateIfOn
  split
  · next hon =>
    obtain ⟨hen, hab⟩ := h.of_on hon
    refine ⟨fun _ => evaluate_isOn _, fun hp => h.pendingFlight (hpending ▸ hp), ?_, fun _ => evaluate_full _,
      fun hab' => ?_⟩
    · rw [evaluate_ne_disabled, Bool.true_and]
      simp only [ReportUnit.evaluate, henable, hpending, hen]
    · have habandoned' : u.ring.abandoned = true := habandoned ▸ hab'
      simp [hab] at habandoned'
  · next hoff =>
    refine ⟨h.flightOn, fun hp => h.pendingFlight (hpending ▸ hp), ?_, fun hon => absurd hon hoff,
      fun hab => h.abandonedOff (habandoned ▸ hab)⟩
    simp only [henable, hpending, h.enable]

/-- The enable taken (R144). -/
theorem RingAgrees.turnOn (master : Bool) (h : RingAgrees u) : RingAgrees (u.turnOn master) := by
  unfold ReportUnit.turnOn
  split
  · next hoff =>
    obtain ⟨hflight, hpending⟩ := h.idle_of_off (by rw [hoff]; rfl)
    split
    · exact ⟨h.flightOn, h.pendingFlight, h.enable, fun hon => by simp [hoff, ReportState.isOn] at hon,
        h.abandonedOff⟩
    · next hmay =>
      refine ⟨fun _ => evaluate_isOn _, fun hp => ?_, ?_, fun _ => evaluate_full _, fun hab => ?_⟩
      · have hp' : u.ring.disablePending = true := hp
        simp [hpending] at hp'
      · rw [evaluate_ne_disabled]
        simp [ReportUnit.evaluate, hpending]
      · exact absurd (.inr hab) hmay
  · exact h

/-- The disable taken (R145, R146). -/
theorem RingAgrees.turnOff (h : RingAgrees u) : RingAgrees u.turnOff := by
  unfold ReportUnit.turnOff
  split
  · next hstate =>
    obtain ⟨hflight, hpending⟩ := h.idle_of_off (by rw [hstate]; rfl)
    constructor <;> simp [hstate, hflight, hpending, ReportState.isOn]
  · next hstate =>
    obtain ⟨hflight, -⟩ := h.idle_of_off (by rw [hstate]; rfl)
    constructor <;> simp [ReportUnit.disabled, hflight, ReportState.isOn]
  all_goals
    next hstate =>
    have hon : u.state.isOn = true := by rw [hstate]; rfl
    have habandoned := (h.of_on hon).2
    split
    · next hflight => constructor <;> simp [ReportUnit.disabled, hflight, ReportState.isOn]
    · next hflight =>
      refine ⟨fun _ => hon, fun _ => Option.isSome_iff_ne_none.mpr hflight, by simp, h.full, h.abandonedOff⟩

/-- The write ends in a ring that is on: it goes on, or a pending disable is carried out (R140, R145). -/
theorem RingAgrees.endWrite (hon : u.state.isOn = true) (hfull : (u.state == .full) = u.ring.isFull)
    (henable : u.ring.enable = !u.ring.disablePending) (hflight : u.inFlight = none)
    (habandoned : u.ring.abandoned = false) : RingAgrees u.endWrite := by
  unfold ReportUnit.endWrite
  split
  · next hpending =>
    constructor <;> simp [ReportUnit.disabled, ReportState.isOn, hflight, henable, hpending]
  · next hpending =>
    have hne : (u.state != .disabled) = true := by
      cases hstate : u.state <;> simp_all [ReportState.isOn]
    constructor <;> simp [hflight, henable, hpending, hne, habandoned, hfull]

theorem ringAgrees_reset (abandoned : Bool) :
    RingAgrees { ReportUnit.reset with ring := { Ring.reset with abandoned := abandoned } } := by
  constructor <;> simp [ReportUnit.reset, Ring.reset, ReportState.isOn]

/-! ### The write at the bus -/

/-- The second part looks at the write, its record and its request alone. -/
theorem WriteAgrees.congr {s t : State} (h : WriteAgrees s) (hflight : t.report.inFlight = s.report.inFlight)
    (habandoned : t.report.ring.abandoned = s.report.ring.abandoned)
    (hslot : t.bus.reportSlot = s.bus.reportSlot)
    (honBus : t.bus.onBus = some .report ↔ s.bus.onBus = some .report)
    (hhead : ∀ src, holdsRecord s src = true → holdsRecord t src = true) : WriteAgrees t := by
  obtain ⟨h1, h2, h3, h4⟩ := h
  constructor <;> simp only [hflight, habandoned, hslot, honBus] <;> try assumption
  cases hsrc : s.report.inFlight with
  | none => rfl
  | some src =>
    rw [hsrc] at h1
    exact hhead src h1

/-- No write in flight, none abandoned, no request. -/
theorem writeAgrees_of_idle {s : State} (hflight : s.report.inFlight = none)
    (habandoned : s.report.ring.abandoned = false) (hslot : s.bus.reportSlot = none)
    (honBus : s.bus.onBus ≠ some .report) : WriteAgrees s := by
  constructor <;> simp [hflight, habandoned, hslot, honBus]

/-- A change of the report unit that leaves the write and the records. -/
theorem WriteAgrees.onReport {s : State} {f : ReportUnit → ReportUnit} (h : WriteAgrees s)
    (hflight : (f s.report).inFlight = s.report.inFlight)
    (habandoned : (f s.report).ring.abandoned = s.report.ring.abandoned)
    (hnotices : (f s.report).notices = s.report.notices) : WriteAgrees (Machine.onReport f s) := by
  refine h.congr hflight habandoned rfl Iff.rfl fun src hsrc => ?_
  cases src with
  | notice =>
    simp only [holdsRecord, onReport_report, hnotices]
    exact hsrc
  | capture => exact hsrc

/-- A record offered to a queue leaves it holding one. -/
theorem offersOnly_holds {u v : ReportUnit} (h : OffersOnly u v) (hu : u.notices.isEmpty = false) :
    v.notices.isEmpty = false := by
  refine h.keeps (P := fun u => u.notices.isEmpty = false) (fun w n hw => ?_) hu
  rw [offer_notices]
  split
  · simp
  · exact hw

/-- Offers leave the ring, its state and the write. -/
theorem offersOnly_keeps {u v : ReportUnit} (h : OffersOnly u v) :
    v.state = u.state ∧ v.ring = u.ring ∧ v.inFlight = u.inFlight := by
  refine h.keeps (P := fun w => w.state = u.state ∧ w.ring = u.ring ∧ w.inFlight = u.inFlight)
    (fun w n hw => ?_) ⟨rfl, rfl, rfl⟩
  obtain ⟨hstate, hring, hflight, -⟩ := offer_keeps w n
  rwa [hstate, hring, hflight]

/-! ### What each row keeps -/

/-- Notices offered, records added to the log, and changes elsewhere. -/
theorem reportInv_of_offers {s t : State} (hs : ReportInv s) (hreport : OffersOnly s.report t.report)
    (hlog : s.capture.log.isEmpty = false → t.capture.log.isEmpty = false)
    (hmaster : t.bus.masterEnable = s.bus.masterEnable) (hslot : t.bus.reportSlot = s.bus.reportSlot)
    (honBus : t.bus.onBus = some .report ↔ s.bus.onBus = some .report) : ReportInv t := by
  rw [reportInv_iff] at hs ⊢
  obtain ⟨hring, hmasterS, hwrite⟩ := hs
  obtain ⟨hst, hri, hfl⟩ := offersOnly_keeps hreport
  refine ⟨hring.congr hst hri hfl, by rwa [hri, hmaster], hwrite.congr hfl (by rw [hri]) hslot honBus
    fun src hsrc => ?_⟩
  cases src with
  | notice => simpa [holdsRecord] using offersOnly_holds hreport (by simpa [holdsRecord] using hsrc)
  | capture => simpa [holdsRecord] using hlog (by simpa [holdsRecord] using hsrc)

theorem traffic_eq {a b : BusInterface} (h : b.traffic = a.traffic) :
    b.masterEnable = a.masterEnable ∧ b.admissionSlot = a.admissionSlot ∧ b.reportSlot = a.reportSlot
      ∧ b.onBus = a.onBus := by
  simpa only [BusInterface.traffic, Prod.mk.injEq] using h

theorem reportInv_of_within {b : Footprint} {s t : State} (h : Within b s t) (hr : b.report = false)
    (hl : b.log = false) (ht : b.traffic = false) (hs : ReportInv s) : ReportInv t := by
  obtain ⟨hmaster, -, hslot, honBus⟩ := traffic_eq (h.traffic ht)
  exact reportInv_of_offers hs (h.report hr) (by rw [h.log hl]; exact id) hmaster hslot (by rw [honBus])

/-- A change of the report unit alone that leaves the write and the records. -/
theorem reportInv_of_onReport {s : State} {f : ReportUnit → ReportUnit} (hs : ReportInv s)
    (hring : RingAgrees s.report → RingAgrees (f s.report))
    (henable : (f s.report).ring.enable = true → s.report.ring.enable = true ∨ s.bus.masterEnable = true)
    (hflight : (f s.report).inFlight = s.report.inFlight)
    (habandoned : (f s.report).ring.abandoned = s.report.ring.abandoned)
    (hnotices : (f s.report).notices = s.report.notices) : ReportInv (onReport f s) := by
  rw [reportInv_iff] at hs ⊢
  obtain ⟨hringS, hmaster, hwrite⟩ := hs
  exact ⟨hring hringS, fun hen => (henable hen).elim hmaster id, hwrite.onReport hflight habandoned hnotices⟩

/-- The words of the report unit that a register write leaves. -/
def ReportUnit.writeWords (u : ReportUnit) : Option Source × Bool × List Notice :=
  (u.inFlight, u.ring.abandoned, u.notices)

theorem reportInv_of_register {s : State} {f : ReportUnit → ReportUnit} (hs : ReportInv s)
    (hring : RingAgrees s.report → RingAgrees (f s.report))
    (henable : (f s.report).ring.enable = true → s.report.ring.enable = true ∨ s.bus.masterEnable = true)
    (hwords : (f s.report).writeWords = s.report.writeWords) : ReportInv (onReport f s) := by
  simp only [ReportUnit.writeWords, Prod.mk.injEq] at hwords
  obtain ⟨hflight, habandoned, hnotices⟩ := hwords
  exact reportInv_of_onReport hs hring henable hflight habandoned hnotices

theorem turnOff_writeWords (u : ReportUnit) : u.turnOff.writeWords = u.writeWords := by
  unfold ReportUnit.turnOff
  split
  · rfl
  · rfl
  all_goals split <;> rfl

theorem turnOff_enable (u : ReportUnit) : u.turnOff.ring.enable = false := by
  unfold ReportUnit.turnOff
  split
  · rfl
  · rfl
  all_goals split <;> rfl

theorem turnOn_writeWords (master : Bool) (u : ReportUnit) : (u.turnOn master).writeWords = u.writeWords := by
  unfold ReportUnit.turnOn
  split
  · split <;> rfl
  · rfl

theorem turnOn_enable {master : Bool} {u : ReportUnit} (h : (u.turnOn master).ring.enable = true) :
    u.ring.enable = true ∨ master = true := by
  unfold ReportUnit.turnOn at h
  split at h
  · split at h
    · exact .inl h
    · next hmay => exact .inr (by simpa using fun hm => hmay (.inl hm))
  · exact .inl h

/-- A write of a word of the ring, in its state or out of it (R142). -/
theorem writeRing_reportInv {s : State} {f : Ring → Ring} (hs : ReportInv s)
    (hf : ∀ r : Ring, (f r).enable = r.enable ∧ (f r).disablePending = r.disablePending
      ∧ (f r).abandoned = r.abandoned) : ReportInv (onReport (ReportUnit.writeRing f) s) := by
  refine reportInv_of_register hs (fun h => h.writeRing hf) (fun hen => .inl ?_) ?_
  · unfold ReportUnit.writeRing at hen
    split at hen
    · exact (hf s.report.ring).1 ▸ hen
    · exact hen
  · unfold ReportUnit.writeRing
    split
    · simp only [ReportUnit.writeWords, (hf s.report.ring).2.2]
    · rfl

theorem setSize_marks (v : Word) (r : Ring) :
    (r.setSize v).enable = r.enable ∧ (r.setSize v).disablePending = r.disablePending
      ∧ (r.setSize v).abandoned = r.abandoned := by
  unfold Ring.setSize
  split <;> exact ⟨rfl, rfl, rfl⟩

/-- The bus-master enable stored (R146, R184). -/
theorem storeMasterEnable_reportInv {s : State} (b : Bool) (hs : ReportInv s) :
    ReportInv (storeMasterEnable b s) := by
  unfold storeMasterEnable
  rw [reportInv_iff] at hs
  obtain ⟨hring, hmaster, hwrite⟩ := hs
  split
  · have hoff := turnOff_writeWords s.report
    simp only [ReportUnit.writeWords, Prod.mk.injEq] at hoff
    obtain ⟨hflight, habandoned, hnotices⟩ := hoff
    refine reportInv_iff.mpr ⟨hring.turnOff, fun hen => ?_, ?_⟩
    · have hen' : s.report.turnOff.ring.enable = true := hen
      simp [turnOff_enable] at hen'
    · refine hwrite.congr hflight habandoned rfl Iff.rfl fun src hsrc => ?_
      cases src with
      | notice =>
        simp only [holdsRecord, onAring_report, onReport_report, hnotices]
        exact hsrc
      | capture => exact hsrc
  · next hkept =>
    refine reportInv_iff.mpr ⟨hring, fun hen => ?_, hwrite.congr rfl rfl rfl Iff.rfl fun _ h => h⟩
    by_contra hb
    exact hkept ⟨hmaster hen, Bool.eq_false_of_not_eq_true hb⟩

/-- A reset abandons the write in flight; its request stays, or was emptied by a power-on reset (R151, R152; log
entry 10). -/
theorem reportInv_of_reset {s t : State} (hs : ReportInv s) (hreport : t.report = s.report.afterReset)
    (honBus : t.bus.onBus = s.bus.onBus)
    (hslot : t.bus.reportSlot = s.bus.reportSlot
      ∨ (t.bus.reportSlot = none ∧ Config.powerOnWithdraws = true)) : ReportInv t := by
  obtain ⟨-, -, hwrite⟩ := reportInv_iff.mp hs
  have habandoned : t.report.ring.abandoned = true →
      s.bus.reportSlot.isSome = true ∨ s.bus.onBus = some .report ∨ Config.powerOnWithdraws = true := fun hab => by
    rw [hreport] at hab
    obtain hab | hflight := Bool.or_eq_true_iff.mp hab
    · exact hwrite.abandonedSlot hab
    · exact .inl (hwrite.flightSlot hflight)
  have howned : s.bus.reportSlot.isSome = true ∨ s.bus.onBus = some .report →
      t.report.ring.abandoned = true := fun h => by
    rw [hreport]
    exact Bool.or_eq_true_iff.mpr (hwrite.owned h).symm
  refine reportInv_iff.mpr ⟨hreport ▸ ringAgrees_reset _, ?_, ?_⟩
  · rw [hreport]
    exact fun hen => by cases hen
  · have hidle : t.report.inFlight = none := by rw [hreport]; rfl
    refine ⟨by rw [hidle]; rfl, fun hflight => by simp [hidle] at hflight, fun hab => ?_, fun h => .inr ?_⟩
    · obtain hslot | ⟨-, hwithdraws⟩ := hslot
      · rw [hslot, honBus]
        exact habandoned hab
      · exact .inr (.inr hwithdraws)
    · obtain hslot | ⟨hnone, -⟩ := hslot
      · rw [hslot, honBus] at h
        exact howned h
      · rw [hnone, honBus] at h
        exact howned (.inr (by simpa using h))

theorem coalesceExpiry_reportInv {s : State} (hs : ReportInv s) : ReportInv (coalesceExpiry s) := by
  unfold coalesceExpiry
  split
  · exact reportInv_of_register (f := fun u => { u with count := 0 }) hs (fun h => h.congr rfl rfl rfl) .inl rfl
  · exact hs

theorem writeRegister_reportInv {s : State} (r : Reg) (v : Word) (h : ReportInv s) :
    ReportInv (writeRegister r v s) := by
  cases r with
  | control =>
    have hstored := storeMasterEnable_reportInv (v.getLsbD 0) h
    simp only [writeRegister, writeControl]
    split
    · exact reportInv_of_reset hstored rfl rfl (.inl rfl)
    · exact hstored
  | reportBase => exact writeRing_reportInv h fun _ => ⟨rfl, rfl, rfl⟩
  | reportSize => exact writeRing_reportInv h (setSize_marks v)
  | reportProd => exact writeRing_reportInv h fun _ => ⟨rfl, rfl, rfl⟩
  | reportCons =>
    refine reportInv_of_register (f := fun u => { u with ring := u.ring.setCons v }.evaluateIfOn) h
      (fun hr => hr.evaluateIfOn (r := s.report.ring.setCons v) rfl rfl rfl) (fun hen => .inl ?_) ?_
    · rw [evaluateIfOn_ring] at hen
      exact hen
    · unfold ReportUnit.evaluateIfOn
      split <;> rfl
  | reportCtrl =>
    simp only [writeRegister, writeReportCtrl]
    split
    · exact reportInv_of_register h (fun hr => hr.turnOn _) turnOn_enable (turnOn_writeWords _ _)
    · refine reportInv_of_register h (fun hr => hr.turnOff) (fun hen => ?_) (turnOff_writeWords _)
      simp [turnOff_enable] at hen
  | reportStatus =>
    exact reportInv_of_register (f := fun u => { u with ring := u.ring.clearFlags v }) h
      (fun hr => ⟨hr.flightOn, hr.pendingFlight, hr.enable, hr.full, hr.abandonedOff⟩) .inl rfl
  | reportCoal =>
    have hstored : ReportInv (onReport (ReportUnit.setCoal v) s) :=
      reportInv_of_register h (fun hr => hr.congr rfl rfl rfl) .inl rfl
    simp only [writeRegister, writeReportCoal]
    split
    · exact reportInv_of_register (f := fun u => { u with count := 0 }) hstored
        (fun hr => hr.congr rfl rfl rfl) .inl rfl
    · exact coalesceExpiry_reportInv hstored
  | _ => exact reportInv_of_within (writeRegister_within _ v s) rfl rfl rfl h

/-- The source chosen holds a record (R137). -/
theorem holdsRecord_of_chosen {s : State} {src : Source}
    (h : chooseSource s.report.notices s.capture.log s.report.lastSource = some src) :
    holdsRecord s src = true := by
  unfold chooseSource at h
  split at h
  · cases h
  · next hnotices _ =>
    obtain rfl := Option.some.inj h
    simp [holdsRecord, hnotices]
  · next _ hlog =>
    obtain rfl := Option.some.inj h
    simp [holdsRecord, hlog]
  · next hnotices hlog =>
    cases src <;> simp [holdsRecord, hnotices, hlog]

theorem reportWriteStart_reportInv {s : State} (hs : ReportInv s) : ReportInv (reportWriteStart s) := by
  unfold reportWriteStart
  split
  · exact hs
  · next src hsrc =>
    split
    · next hmay =>
      simp only [mayWrite, Bool.and_eq_true, beq_iff_eq, Bool.not_eq_true'] at hmay
      obtain ⟨⟨⟨hrunning, hpending⟩, hmaster⟩, -⟩ := hmay
      obtain ⟨hring, hmasterS, hwrite⟩ := reportInv_iff.mp hs
      have hon : s.report.state.isOn = true := by rw [hrunning]; rfl
      refine reportInv_iff.mpr ⟨⟨fun _ => hon, fun _ => rfl, hring.enable, hring.full, hring.abandonedOff⟩,
        hmasterS, ⟨?_, fun _ => rfl, fun _ => .inl rfl, fun _ => .inl rfl⟩⟩
      have hholds := holdsRecord_of_chosen hsrc
      cases src <;> exact hholds
    · exact hs

/-- The report burst ends: the request is gone, and no other write is in flight or abandoned. -/
theorem writeAgrees_of_freed {s t : State} (hbus : t.bus = (releaseReportSlot s).bus)
    (hflight : t.report.inFlight = none) (habandoned : t.report.ring.abandoned = false) : WriteAgrees t := by
  refine writeAgrees_of_idle hflight habandoned ?_ ?_ <;> simp [hbus]

/-- The abandoned write's completion with its burst on the bus (R152). -/
theorem discardWrite_reportInv {s : State} (hs : ReportInv s) (hab : s.report.ring.abandoned = true) :
    ReportInv (discardWrite (releaseReportSlot s)) := by
  obtain ⟨hring, hmaster, -⟩ := reportInv_iff.mp hs
  have hoff := hring.abandonedOff hab
  obtain ⟨hflight, -⟩ := hring.idle_of_off (by rw [hoff]; rfl)
  exact reportInv_iff.mpr ⟨⟨hring.flightOn, hring.pendingFlight, hring.enable, hring.full, fun h => by cases h⟩,
    hmaster, writeAgrees_of_freed rfl hflight rfl⟩

/-- The completion of an abandoned write whose slot a power-on reset emptied (log entry 10). -/
theorem discardEmptiedWrite_reportInv {s : State} (hs : ReportInv s) (honBus : s.bus.onBus ≠ some .report) :
    ReportInv (discardEmptiedWrite s) := by
  obtain hsame | ⟨hab, hslot, hdiscard⟩ := discardEmptiedWrite_eq s
  · rwa [hsame]
  · rw [hdiscard]
    obtain ⟨hring, hmaster, -⟩ := reportInv_iff.mp hs
    have hoff := hring.abandonedOff hab
    obtain ⟨hflight, -⟩ := hring.idle_of_off (by rw [hoff]; rfl)
    exact reportInv_iff.mpr ⟨⟨hring.flightOn, hring.pendingFlight, hring.enable, hring.full, fun h => by cases h⟩,
      hmaster, writeAgrees_of_idle hflight rfl hslot honBus⟩

/-- A burst of the report unit that is not abandoned is that of a write in flight (R138, R188). -/
theorem inFlight_of_onBus {s : State} (hs : ReportInv s) (honBus : s.bus.onBus = some .report)
    (hab : ¬ s.report.ring.abandoned = true) : s.report.inFlight ≠ none := by
  obtain ⟨-, -, hwrite⟩ := reportInv_iff.mp hs
  exact Option.isSome_iff_ne_none.mp ((hwrite.owned (.inr honBus)).resolve_right hab)

@[simp] theorem countDelivered_state (s : State) : (countDelivered s).report.state = s.report.state := by
  unfold countDelivered
  split <;> rfl

@[simp] theorem countDelivered_inFlight (s : State) :
    (countDelivered s).report.inFlight = s.report.inFlight := by
  unfold countDelivered
  split <;> rfl

@[simp] theorem removeRecord_state (src : Source) (s : State) :
    (removeRecord src s).report.state = s.report.state := by
  cases src with
  | notice =>
    simp only [removeRecord, onReport_report, ReportUnit.removeNotice]
    split <;> rfl
  | capture => rfl

@[simp] theorem evaluateIfOn_inFlight (u : ReportUnit) : u.evaluateIfOn.inFlight = u.inFlight := by
  unfold ReportUnit.evaluateIfOn
  split <;> rfl

@[simp] theorem endWrite_inFlight (u : ReportUnit) : u.endWrite.inFlight = u.inFlight := by
  unfold ReportUnit.endWrite
  split <;> rfl

@[simp] theorem endWrite_enable (u : ReportUnit) : u.endWrite.ring.enable = u.ring.enable := by
  unfold ReportUnit.endWrite
  split <;> rfl

@[simp] theorem endWrite_abandoned (u : ReportUnit) : u.endWrite.ring.abandoned = u.ring.abandoned := by
  unfold ReportUnit.endWrite
  split <;> rfl

/-- A delivery ends the write (R140). -/
theorem deliverRecord_reportInv {s : State} {src : Source} (hs : ReportInv s)
    (hflight : s.report.inFlight = some src) : ReportInv (deliverRecord src (releaseReportSlot s)) := by
  obtain ⟨hring, hmaster, -⟩ := reportInv_iff.mp hs
  have hon : s.report.state.isOn = true := hring.flightOn (by simp [hflight])
  obtain ⟨henable, habandoned⟩ := hring.of_on hon
  let counted : State := countDelivered (onReport (ReportUnit.deliver src) (removeRecord src (releaseReportSlot s)))
  have hstate : counted.report.state = s.report.state := by simp [counted, ReportUnit.deliver]
  have hcring : counted.report.ring = { s.report.ring with prod := s.report.ring.after s.report.ring.prod } := by
    simp [counted, ReportUnit.deliver]
  have hcflight : counted.report.inFlight = none := by simp [counted, ReportUnit.deliver]
  have hunit : (deliverRecord src (releaseReportSlot s)).report = counted.report.evaluateIfOn.endWrite := rfl
  have hevaluated : counted.report.evaluateIfOn = counted.report.evaluate := by
    simp only [ReportUnit.evaluateIfOn, hstate, hon, if_true]
  refine reportInv_iff.mpr ⟨?_, ?_, writeAgrees_of_freed (s := s) ?_ ?_ ?_⟩
  · rw [hunit, hevaluated]
    refine .endWrite (evaluate_isOn _) (evaluate_full _) ?_ hcflight ?_
    · simp only [ReportUnit.evaluate, hcring, henable]
    · simp only [ReportUnit.evaluate, hcring, habandoned]
  · rw [hunit, endWrite_enable, evaluateIfOn_ring, hcring]
    simpa using hmaster
  · simp
  · rw [hunit, endWrite_inFlight, evaluateIfOn_inFlight, hcflight]
  · rw [hunit, endWrite_abandoned, evaluateIfOn_ring, hcring]
    exact habandoned

/-- A failed write ends (R141, R145). -/
theorem failWrite_reportInv {s : State} {src : Source} (hs : ReportInv s)
    (hflight : s.report.inFlight = some src) : ReportInv (failWrite (releaseReportSlot s)) := by
  obtain ⟨hring, hmaster, -⟩ := reportInv_iff.mp hs
  have hon : s.report.state.isOn = true := hring.flightOn (by simp [hflight])
  obtain ⟨henable, habandoned⟩ := hring.of_on hon
  simp only [failWrite]
  split
  · next hpending =>
    have hpending' : s.report.ring.disablePending = true := hpending
    refine reportInv_iff.mpr ⟨?_, hmaster, writeAgrees_of_freed rfl rfl habandoned⟩
    constructor <;> simp [ReportUnit.disabled, ReportState.isOn, henable, hpending']
  · next hpending =>
    have hpending' : s.report.ring.disablePending = false := Bool.eq_false_of_not_eq_true hpending
    refine reportInv_iff.mpr ⟨?_, hmaster, writeAgrees_of_freed rfl rfl habandoned⟩
    constructor <;> simp [ReportState.isOn, henable, hpending', habandoned]

theorem reportWriteDone_reportInv {s : State} (hs : ReportInv s) : ReportInv (reportWriteDone s) := by
  unfold reportWriteDone
  split
  · next honBus =>
    split
    · next hab => exact discardWrite_reportInv hs hab
    · next hab =>
      split
      · next src hflight => exact deliverRecord_reportInv hs hflight
      · next hflight => exact absurd hflight (inFlight_of_onBus hs honBus hab)
  · next honBus => exact discardEmptiedWrite_reportInv hs honBus

theorem reportWriteError_reportInv {s : State} (hs : ReportInv s) : ReportInv (reportWriteError s) := by
  unfold reportWriteError
  split
  · next honBus =>
    split
    · next hab => exact discardWrite_reportInv hs hab
    · next hab =>
      split
      · next src hflight => exact failWrite_reportInv hs hflight
      · next hflight => exact absurd hflight (inFlight_of_onBus hs honBus hab)
  · next honBus => exact discardEmptiedWrite_reportInv hs honBus

/-- What the operations of the admission ring engine do to the bus interface leaves the report unit's side. -/
theorem reportInv_of_fetch {s t : State} (hs : ReportInv s) (hreport : t.report = s.report)
    (hcapture : t.capture = s.capture) (hmaster : t.bus.masterEnable = s.bus.masterEnable)
    (hslot : t.bus.reportSlot = s.bus.reportSlot)
    (honBus : t.bus.onBus = some .report ↔ s.bus.onBus = some .report) : ReportInv t :=
  reportInv_of_offers hs (hreport ▸ .refl _) (by rw [hcapture]; exact id) hmaster hslot honBus

theorem discardEmptiedFetch_reportInv {s : State} (hs : ReportInv s) : ReportInv (discardEmptiedFetch s) := by
  unfold discardEmptiedFetch
  split <;> exact hs

theorem fetchStart_reportInv {s : State} (hs : ReportInv s) : ReportInv (fetchStart s) := by
  unfold fetchStart
  split <;> exact hs

theorem releaseAdmissionSlot_reportInv {s : State} (hs : ReportInv s)
    (honBus : s.bus.onBus = some .admission) : ReportInv (releaseAdmissionSlot s) :=
  reportInv_of_fetch hs rfl rfl rfl rfl (by simp [honBus])

theorem fetchDone_reportInv {s : State} (data : Words8) (hs : ReportInv s) : ReportInv (fetchDone data s) := by
  unfold fetchDone
  split
  · next honBus =>
    have hfreed := releaseAdmissionSlot_reportInv hs honBus
    split
    · exact hfreed
    · split <;> exact hfreed
  · exact discardEmptiedFetch_reportInv hs

theorem fetchError_reportInv {s : State} (hs : ReportInv s) : ReportInv (fetchError s) := by
  unfold fetchError
  split
  · next honBus =>
    have hfreed := releaseAdmissionSlot_reportInv hs honBus
    split
    · exact hfreed
    · split
      · simp only [failFetch]
        split <;> exact hfreed
      · exact hfreed
  · exact discardEmptiedFetch_reportInv hs

/-- A grant goes to an engine whose request waits, on a free bus (R188). -/
theorem chooseGrant_some {b : BusInterface} {e : Engine} (h : b.chooseGrant = some e) :
    b.onBus = none ∧ (e = .report → b.reportSlot.isSome = true)
      ∧ (e = .admission → b.admissionSlot.isSome = true) := by
  unfold BusInterface.chooseGrant at h
  split at h
  · cases h
  · next hfree =>
    refine ⟨hfree, ?_⟩
    split at h
    · cases h
    · next hadmission _ =>
      obtain rfl := Option.some.inj h
      exact ⟨nofun, fun _ => by rw [hadmission]; rfl⟩
    · next _ hreport =>
      obtain rfl := Option.some.inj h
      exact ⟨(fun _ => by rw [hreport]; rfl), nofun⟩
    · next hadmission hreport =>
      exact ⟨(fun _ => by rw [hreport]; rfl), fun _ => by rw [hadmission]; rfl⟩

theorem burstGrant_reportInv {s : State} (hs : ReportInv s) : ReportInv (burstGrant s) := by
  unfold burstGrant
  split
  · exact hs
  · next e he =>
    obtain ⟨hfree, hslot, -⟩ := chooseGrant_some he
    obtain ⟨hring, hmaster, hwrite⟩ := reportInv_iff.mp hs
    refine reportInv_iff.mpr ⟨hring, hmaster, hwrite.head, hwrite.flightSlot, fun hab => ?_, fun h => ?_⟩
    · obtain h | h | h := hwrite.abandonedSlot hab
      · exact .inl h
      · rw [hfree] at h
        cases h
      · exact .inr (.inr h)
    · obtain h | h := h
      · exact hwrite.owned (.inl h)
      · exact hwrite.owned (.inl (hslot (Option.some.inj h)))

theorem inputEdge_log {s : State} (n : Fin 8) (e : Edge) (h : s.capture.log.isEmpty = false) :
    (inputEdge n e s).capture.log.isEmpty = false := by
  have hoffer : ∀ (r : CaptureRecord) (w : State), w.capture.log.isEmpty = false →
      (offerRecord r w).capture.log.isEmpty = false := fun r w hw => by
    unfold offerRecord
    split
    · simp
    · exact hw
  simp only [inputEdge]
  split
  · split
    · split
      · exact h
      · simp only [acceptEdge, triggerTemplate_capture]
        exact hoffer _ _ h
    · exact h
  · exact h

/-- Every row keeps the report ring's invariant. -/
theorem exec_reportInv (c : Instr) (s t : State) (hs : ReportInv s) (h : exec c s = .next t) :
    ReportInv t := by
  have hwithin := exec_within h
  cases hw : rowWrite c with
  | some rv =>
    rw [exec_of_writes hw] at h
    exact keeps_of_live h hs (writeRegister_reportInv rv.1 rv.2 hs)
  | none =>
    simp only [rowFootprint, hw] at hwithin
    cases c with
    | powerOnReset =>
      obtain rfl := Host.Outcome.next.inj h
      refine reportInv_of_reset hs rfl rfl ?_
      simp only [powerOnReset_bus, slotAfterPowerOn_eq]
      split
      · next hwithdraws => exact .inr ⟨rfl, hwithdraws⟩
      · exact .inl rfl
    | inputEdge n e =>
      have hedge := inputEdge_within n e s
      obtain ⟨hmaster, -, hslot, honBus⟩ := traffic_eq (hedge.traffic rfl)
      exact keeps_of_live h hs
        (reportInv_of_offers hs (hedge.report rfl) (inputEdge_log n e) hmaster hslot (by rw [honBus]))
    | reportWriteStart => exact keeps_of_live h hs (reportWriteStart_reportInv hs)
    | reportWriteDone => exact Host.Outcome.next.inj h ▸ reportWriteDone_reportInv hs
    | reportWriteError => exact Host.Outcome.next.inj h ▸ reportWriteError_reportInv hs
    | coalesceExpiry => exact keeps_of_live h hs (coalesceExpiry_reportInv hs)
    | fetchStart => exact keeps_of_live h hs (fetchStart_reportInv hs)
    | fetchDone data => exact Host.Outcome.next.inj h ▸ fetchDone_reportInv data hs
    | fetchError => exact Host.Outcome.next.inj h ▸ fetchError_reportInv hs
    | burstGrant => exact Host.Outcome.next.inj h ▸ burstGrant_reportInv hs
    | _ => exact reportInv_of_within hwithin rfl rfl rfl hs

/-- Settles O8: every row keeps the invariant, so every step does. -/
theorem reportInvariantIsKept : Obligations.ReportInvariantIsKept :=
  fun _ _ hs h => step_keeps (P := ReportInv) (fun _ _ hs => hs) exec_reportInv hs h

end Sys2Proof.Machine
end

section
/-! PROOFS. The admission ring engine's invariant (R156 to R158, R161 to R163, R166, R167, R170, R188; O9). As for
the report ring it is split: what the engine's own words agree in, and what its fetch, or the one a reset
abandoned, has at the bus interface. -/

namespace Sys2Proof.Machine

/-! ### The two parts -/

/-- The engine's state, buffer, fetch, retry claim, enable and marks agree. -/
structure EngineAgrees (a : AdmissionRing) : Prop where
  fetching : a.fetch ≠ .idle → a.state = .running
  pendingBurst : a.ring.disablePending = true → a.fetch = .burst
  enable : a.ring.enable = (a.state != .disabled && !a.ring.disablePending)
  buffer : a.buffer.isSome = (a.state == .held || a.fetch == .claim)
  retryHeld : a.retry = true → a.state = .held
  heldPublished : a.state = .held → a.ring.published = true
  heldChecked : a.state = .held → a.buffer.all passesFirstChecks = true
  abandonedOff : a.ring.abandoned = true → a.state = .disabled

/-- The fetch whose burst is not complete, or the abandoned one, has its request or its burst. -/
structure FetchAgrees (a : AdmissionRing) (b : BusInterface) : Prop where
  burstSlot : a.fetch = .burst → b.admissionSlot.isSome = true
  abandonedSlot : a.ring.abandoned = true →
    b.admissionSlot.isSome = true ∨ b.onBus = some .admission ∨ Config.powerOnWithdraws = true
  owned : b.admissionSlot.isSome = true ∨ b.onBus = some .admission →
    a.fetch = .burst ∨ a.ring.abandoned = true

theorem aringInv_iff {s : State} :
    AringInv s ↔ EngineAgrees s.aring ∧ (s.aring.ring.enable = true → s.bus.masterEnable = true)
      ∧ FetchAgrees s.aring s.bus := by
  constructor
  · rintro ⟨h1, h2, h3, h4, h5, h6, h7, h8, h9, h10, h11, h12⟩
    exact ⟨⟨h1, h2, h3, h5, h6, h7, h8, h9⟩, h4, ⟨h10, h11, h12⟩⟩
  · rintro ⟨⟨h1, h2, h3, h5, h6, h7, h8, h9⟩, h4, ⟨h10, h11, h12⟩⟩
    exact ⟨h1, h2, h3, h4, h5, h6, h7, h8, h9, h10, h11, h12⟩

/-! ### The engine's own words -/

variable {a : AdmissionRing}

/-- An engine that is on and has no burst under way is enabled, with no disable pending and no fetch abandoned. -/
theorem EngineAgrees.settled (h : EngineAgrees a) (hon : a.state ≠ .disabled) (hfetch : a.fetch ≠ .burst) :
    a.ring.enable = true ∧ a.ring.disablePending = false ∧ a.ring.abandoned = false := by
  have hpending : a.ring.disablePending = false :=
    Bool.eq_false_of_not_eq_true fun hp => hfetch (h.pendingBurst hp)
  refine ⟨?_, hpending, Bool.eq_false_of_not_eq_true fun hab => hon (h.abandonedOff hab)⟩
  rw [h.enable, hpending, bne_iff_ne.mpr hon]
  rfl

/-- An engine that is not RUNNING fetches nothing. -/
theorem EngineAgrees.idle_of_not_running (h : EngineAgrees a) (hstate : a.state ≠ .running) : a.fetch = .idle := by
  by_contra hne
  exact hstate (h.fetching hne)

theorem EngineAgrees.retrying {c : AdmissionRing} (h : EngineAgrees a) (hc : RetriesOnly a c) : EngineAgrees c := by
  obtain rfl | ⟨hheld, rfl⟩ := hc
  · exact h
  · exact { h with retryHeld := fun _ => hheld }

/-- Other words of the ring, its indices and marks as they were. -/
theorem EngineAgrees.withRing {r : Ring} (h : EngineAgrees a) (henable : r.enable = a.ring.enable)
    (hpending : r.disablePending = a.ring.disablePending) (habandoned : r.abandoned = a.ring.abandoned)
    (hpublished : a.state = .held → r.published = true) : EngineAgrees { a with ring := r } where
  fetching := h.fetching
  pendingBurst hp := h.pendingBurst (hpending ▸ hp)
  enable := by
    change r.enable = _
    rw [henable, h.enable, hpending]
  buffer := h.buffer
  retryHeld := h.retryHeld
  heldPublished := hpublished
  heldChecked := h.heldChecked
  abandonedOff hab := h.abandonedOff (habandoned ▸ hab)

/-- The engine in RUNNING with an empty buffer, whatever its indices. -/
theorem EngineAgrees.emptied {r : Ring} (h : EngineAgrees a) (hon : a.state ≠ .disabled)
    (hfetch : a.fetch ≠ .burst) (henable : r.enable = a.ring.enable)
    (hpending : r.disablePending = a.ring.disablePending) (habandoned : r.abandoned = a.ring.abandoned) :
    EngineAgrees { a.emptied with ring := r } := by
  obtain ⟨hen, hpe, hab⟩ := h.settled hon hfetch
  rw [hen] at henable
  rw [hpe] at hpending
  rw [hab] at habandoned
  constructor <;> simp [AdmissionRing.emptied, henable, hpending, habandoned]

theorem EngineAgrees.finish (h : EngineAgrees a) (hon : a.state ≠ .disabled) (hfetch : a.fetch ≠ .burst) :
    EngineAgrees a.finish :=
  h.emptied hon hfetch rfl rfl rfl

/-- The ring enters DISABLED, its enable at 0. -/
theorem engineAgrees_disabled (henable : a.ring.enable = false) : EngineAgrees a.disabled := by
  constructor <;> simp [AdmissionRing.disabled, henable]

theorem engineAgrees_reset (abandoned : Bool) :
    EngineAgrees { AdmissionRing.reset with ring := { Ring.reset with abandoned := abandoned } } := by
  constructor <;> simp [AdmissionRing.reset, Ring.reset]

/-- The data of a fetch arrives (R158, R166). -/
theorem EngineAgrees.receive (data : Words8) (h : EngineAgrees a) (hburst : a.fetch = .burst) :
    EngineAgrees (a.receive data) := by
  have hrunning : a.state = .running := h.fetching (by rw [hburst]; nofun)
  unfold AdmissionRing.receive
  split
  · next hpending => exact engineAgrees_disabled (by rw [h.enable, hpending]; simp)
  · next hpending =>
    have henable := h.enable
    have hretry := h.retryHeld
    have habandoned := h.abandonedOff
    constructor <;> simp_all

/-- A fetch that fails halts the engine (R164). -/
theorem EngineAgrees.halted (h : EngineAgrees a) (hburst : a.fetch = .burst)
    (hpending : a.ring.disablePending = false) :
    EngineAgrees { a with state := .halted, fetch := .idle } := by
  have hrunning : a.state = .running := h.fetching (by rw [hburst]; nofun)
  have hbuffer := h.buffer
  have hretry := h.retryHeld
  have habandoned := h.abandonedOff
  have henable : a.ring.enable = true := by rw [h.enable, hpending, hrunning]; rfl
  rw [hrunning, hburst] at hbuffer
  constructor <;> simp_all [show a.buffer.isSome = false from hbuffer]

/-- The descriptor is held (R161). -/
theorem EngineAgrees.hold {w : Words8} (h : EngineAgrees a) (hclaim : a.fetch = .claim) (hw : a.buffer = some w)
    (hpublished : a.ring.published = true) (hchecks : passesFirstChecks w = true) :
    EngineAgrees { a with state := .held, fetch := .idle } := by
  have hrunning : a.state = .running := h.fetching (by rw [hclaim]; nofun)
  obtain ⟨henable, hpending, habandoned⟩ :=
    h.settled (by rw [hrunning]; nofun) (by rw [hclaim]; nofun)
  constructor <;> simp [henable, hpending, habandoned, hw, hpublished, hchecks]

/-- The retry claim finds the table full again (R162). -/
theorem EngineAgrees.kept (h : EngineAgrees a) : EngineAgrees { a with retry := false } :=
  { h with retryHeld := nofun }

/-- Base, size and consumer index written while DISABLED, or the write ignored (R153). -/
theorem EngineAgrees.writeRing {f : Ring → Ring}
    (hf : ∀ r : Ring, (f r).enable = r.enable ∧ (f r).disablePending = r.disablePending
      ∧ (f r).abandoned = r.abandoned) (h : EngineAgrees a) : EngineAgrees (a.writeRing f) := by
  obtain ⟨henable, hpending, habandoned⟩ := hf a.ring
  unfold AdmissionRing.writeRing
  split
  · next hoff => exact h.withRing henable hpending habandoned fun hheld => nomatch hoff.1.symm.trans hheld
  · exact h.withRing rfl rfl rfl h.heldPublished

/-- A producer write, which in HELD may withdraw the descriptor (R154, R163). -/
theorem EngineAgrees.writeProd (v : Word) (h : EngineAgrees a) : EngineAgrees (a.writeProd v) := by
  simp only [AdmissionRing.writeProd]
  split
  · next hwithdrawn =>
    have hidle := h.idle_of_not_running (by rw [hwithdrawn.1]; nofun)
    exact h.emptied (by rw [hwithdrawn.1]; nofun) (by rw [hidle]; nofun) rfl rfl rfl
  · next hkept =>
    refine h.withRing rfl rfl rfl fun hheld => ?_
    by_contra hne
    exact hkept ⟨hheld, Bool.eq_false_of_not_eq_true hne⟩

/-- The enable taken (R156). -/
theorem EngineAgrees.turnOn (master : Bool) (h : EngineAgrees a) : EngineAgrees (a.turnOn master) := by
  unfold AdmissionRing.turnOn
  split
  · next hoff =>
    have hidle := h.idle_of_not_running (by rw [hoff]; nofun)
    split
    · exact h.withRing rfl rfl rfl fun hheld => nomatch hoff.symm.trans hheld
    · next hmay =>
      have hpending := h.pendingBurst
      have hbuffer := h.buffer
      have hretry := h.retryHeld
      rw [hoff, hidle] at hbuffer
      constructor <;> simp_all [show a.buffer.isSome = false from hbuffer]
  · exact h

/-- The disable taken (R166, R167; log entry 12). -/
theorem EngineAgrees.turnOff (h : EngineAgrees a) : EngineAgrees a.turnOff := by
  simp only [AdmissionRing.turnOff]
  split
  · next hstate =>
    have hpending := h.pendingBurst
    have hidle := h.idle_of_not_running (by rw [hstate]; nofun)
    exact { h with enable := by simp [hstate] }
  · next hstate hfetch =>
    have habandoned := h.abandonedOff
    exact { h with
      pendingBurst := fun _ => hfetch, enable := by simp, heldPublished := fun hheld => nomatch hstate.symm.trans hheld }
  all_goals exact engineAgrees_disabled rfl

/-! ### The fetch at the bus -/

/-- The second part looks at the fetch, the mark and the request alone. -/
theorem FetchAgrees.congr {c : AdmissionRing} {b d : BusInterface} (h : FetchAgrees a b)
    (hburst : c.fetch = .burst ↔ a.fetch = .burst) (habandoned : c.ring.abandoned = a.ring.abandoned)
    (hslot : d.admissionSlot = b.admissionSlot)
    (honBus : d.onBus = some .admission ↔ b.onBus = some .admission) : FetchAgrees c d := by
  obtain ⟨h1, h2, h3⟩ := h
  constructor <;> simp only [hburst, habandoned, hslot, honBus] <;> assumption

/-- No burst under way, none abandoned, no request. -/
theorem fetchAgrees_of_idle {b : BusInterface} (hburst : a.fetch ≠ .burst) (habandoned : a.ring.abandoned = false)
    (hslot : b.admissionSlot = none) (honBus : b.onBus ≠ some .admission) : FetchAgrees a b := by
  constructor <;> simp [hburst, habandoned, hslot, honBus]

theorem aringTurnOff_abandoned (a : AdmissionRing) : a.turnOff.ring.abandoned = a.ring.abandoned := by
  simp only [AdmissionRing.turnOff]
  split <;> rfl

theorem aringTurnOff_enable (a : AdmissionRing) : a.turnOff.ring.enable = false := by
  simp only [AdmissionRing.turnOff]
  split <;> rfl

/-- A burst under way outlives the disable (R166). -/
theorem EngineAgrees.turnOff_burst (h : EngineAgrees a) : a.turnOff.fetch = .burst ↔ a.fetch = .burst := by
  have hnot : a.state ≠ .running → a.fetch ≠ .burst := fun hstate hburst =>
    nomatch (h.idle_of_not_running hstate).symm.trans hburst
  simp only [AdmissionRing.turnOff]
  split
  · exact Iff.rfl
  · exact Iff.rfl
  · next hfetch => simp [AdmissionRing.disabled, hfetch]
  · next hfetch => simp [AdmissionRing.disabled, hfetch]
  · next hstate => simp [AdmissionRing.disabled, hnot (by rw [hstate]; nofun)]
  · next hstate => simp [AdmissionRing.disabled, hnot (by rw [hstate]; nofun)]

/-! ### What each row keeps -/

/-- A change of the engine that leaves its burst, and changes elsewhere. -/
theorem aringInv_of_engine {s t : State} (hs : AringInv s)
    (hengine : EngineAgrees s.aring → EngineAgrees t.aring)
    (henable : t.aring.ring.enable = true → s.aring.ring.enable = true ∨ s.bus.masterEnable = true)
    (hburst : t.aring.fetch = .burst ↔ s.aring.fetch = .burst)
    (habandoned : t.aring.ring.abandoned = s.aring.ring.abandoned)
    (hmaster : t.bus.masterEnable = s.bus.masterEnable) (hslot : t.bus.admissionSlot = s.bus.admissionSlot)
    (honBus : t.bus.onBus = some .admission ↔ s.bus.onBus = some .admission) : AringInv t := by
  obtain ⟨hengineS, hmasterS, hfetch⟩ := aringInv_iff.mp hs
  exact aringInv_iff.mpr ⟨hengine hengineS, fun hen => hmaster ▸ (henable hen).elim hmasterS id,
    hfetch.congr hburst habandoned hslot honBus⟩

/-- A retry claim set at most, and changes elsewhere. -/
theorem aringInv_of_retries {s t : State} (hs : AringInv s) (h : RetriesOnly s.aring t.aring)
    (hmaster : t.bus.masterEnable = s.bus.masterEnable) (hslot : t.bus.admissionSlot = s.bus.admissionSlot)
    (honBus : t.bus.onBus = some .admission ↔ s.bus.onBus = some .admission) : AringInv t := by
  have hfetch : t.aring.fetch = s.aring.fetch := by
    obtain h | ⟨-, h⟩ := h <;> rw [h]
  exact aringInv_of_engine hs (fun ha => ha.retrying h) (fun hen => .inl (h.ring ▸ hen)) (by rw [hfetch])
    (by rw [h.ring]) hmaster hslot honBus

theorem aringInv_of_within {b : Footprint} {s t : State} (h : Within b s t) (ha : b.aring = false)
    (ht : b.traffic = false) (hs : AringInv s) : AringInv t := by
  obtain ⟨hmaster, hslot, -, honBus⟩ := traffic_eq (h.traffic ht)
  exact aringInv_of_retries hs (h.aring ha) hmaster hslot (by rw [honBus])

/-- A change of the engine alone. -/
theorem aringInv_of_onAring {s : State} {f : AdmissionRing → AdmissionRing} (hs : AringInv s)
    (hengine : EngineAgrees s.aring → EngineAgrees (f s.aring))
    (henable : (f s.aring).ring.enable = true → s.aring.ring.enable = true ∨ s.bus.masterEnable = true)
    (hburst : (f s.aring).fetch = .burst ↔ s.aring.fetch = .burst)
    (habandoned : (f s.aring).ring.abandoned = s.aring.ring.abandoned) : AringInv (onAring f s) :=
  aringInv_of_engine hs hengine henable hburst habandoned rfl rfl Iff.rfl

/-- The operations of the report unit at the bus interface leave the engine's side. -/
theorem aringInv_of_write {s t : State} (hs : AringInv s) (haring : t.aring = s.aring)
    (hmaster : t.bus.masterEnable = s.bus.masterEnable) (hslot : t.bus.admissionSlot = s.bus.admissionSlot)
    (honBus : t.bus.onBus = some .admission ↔ s.bus.onBus = some .admission) : AringInv t :=
  aringInv_of_retries hs (.inl haring) hmaster hslot honBus

/-- The bus-master enable stored (R167, R184). -/
theorem storeMasterEnable_aringInv {s : State} (b : Bool) (hs : AringInv s) :
    AringInv (storeMasterEnable b s) := by
  obtain ⟨hengine, hmaster, hfetch⟩ := aringInv_iff.mp hs
  unfold storeMasterEnable
  split
  · refine aringInv_iff.mpr ⟨hengine.turnOff, fun hen => ?_,
      hfetch.congr hengine.turnOff_burst (aringTurnOff_abandoned _) rfl Iff.rfl⟩
    have hen' : s.aring.turnOff.ring.enable = true := hen
    simp [aringTurnOff_enable] at hen'
  · next hkept =>
    refine aringInv_iff.mpr ⟨hengine, fun hen => ?_, hfetch.congr Iff.rfl rfl rfl Iff.rfl⟩
    by_contra hb
    exact hkept ⟨hmaster hen, Bool.eq_false_of_not_eq_true hb⟩

/-- A reset abandons the fetch whose burst is not complete; its request stays, or was emptied by a power-on reset
(R170; log entries 10 and 13). -/
theorem aringInv_of_reset {s t : State} (hs : AringInv s) (haring : t.aring = s.aring.afterReset)
    (honBus : t.bus.onBus = s.bus.onBus)
    (hslot : t.bus.admissionSlot = s.bus.admissionSlot
      ∨ (t.bus.admissionSlot = none ∧ Config.powerOnWithdraws = true)) : AringInv t := by
  obtain ⟨-, -, hfetch⟩ := aringInv_iff.mp hs
  have habandoned : t.aring.ring.abandoned = true →
      s.bus.admissionSlot.isSome = true ∨ s.bus.onBus = some .admission ∨ Config.powerOnWithdraws = true :=
    fun hab => by
      rw [haring] at hab
      obtain hab | hburst := Bool.or_eq_true_iff.mp hab
      · exact hfetch.abandonedSlot hab
      · exact .inl (hfetch.burstSlot (eq_of_beq hburst))
  have howned : s.bus.admissionSlot.isSome = true ∨ s.bus.onBus = some .admission →
      t.aring.ring.abandoned = true := fun h => by
    rw [haring]
    exact Bool.or_eq_true_iff.mpr ((hfetch.owned h).symm.imp id beq_iff_eq.mpr)
  have hidle : t.aring.fetch = .idle := by rw [haring]; rfl
  refine aringInv_iff.mpr ⟨haring ▸ engineAgrees_reset _, fun hen => ?_, fun hburst => ?_, fun hab => ?_,
    fun h => .inr ?_⟩
  · rw [haring] at hen
    cases hen
  · simp [hidle] at hburst
  · obtain hslot | ⟨-, hwithdraws⟩ := hslot
    · rw [hslot, honBus]
      exact habandoned hab
    · exact .inr (.inr hwithdraws)
  · obtain hslot | ⟨hnone, -⟩ := hslot
    · rw [hslot, honBus] at h
      exact howned h
    · rw [hnone, honBus] at h
      exact howned (.inr (by simpa using h))

theorem aringTurnOn_enable {master : Bool} (h : (a.turnOn master).ring.enable = true) :
    a.ring.enable = true ∨ master = true := by
  unfold AdmissionRing.turnOn at h
  split at h
  · split at h
    · exact .inl h
    · next hmay => exact .inr (by simpa using fun hm => hmay (.inl hm))
  · exact .inl h

theorem aringTurnOn_flight (master : Bool) (a : AdmissionRing) :
    (a.turnOn master).fetch = a.fetch ∧ (a.turnOn master).ring.abandoned = a.ring.abandoned := by
  unfold AdmissionRing.turnOn
  split
  · split <;> exact ⟨rfl, rfl⟩
  · exact ⟨rfl, rfl⟩

/-- A write of a word of the ring, in its state or out of it (R153). -/
theorem writeRing_aringInv {s : State} {f : Ring → Ring} (hs : AringInv s)
    (hf : ∀ r : Ring, (f r).enable = r.enable ∧ (f r).disablePending = r.disablePending
      ∧ (f r).abandoned = r.abandoned) : AringInv (onAring (AdmissionRing.writeRing f) s) := by
  obtain ⟨henable, -, habandoned⟩ := hf s.aring.ring
  refine aringInv_of_onAring hs (fun h => h.writeRing hf) (fun hen => .inl ?_) ?_ ?_
  · unfold AdmissionRing.writeRing at hen
    split at hen
    · exact henable ▸ hen
    · exact hen
  · unfold AdmissionRing.writeRing
    split <;> exact Iff.rfl
  · unfold AdmissionRing.writeRing
    split
    · exact habandoned
    · rfl

theorem writeProd_aringInv {s : State} (v : Word) (hs : AringInv s) : AringInv (writeAringProd v s) := by
  obtain ⟨hengine, -, -⟩ := aringInv_iff.mp hs
  refine aringInv_of_onAring hs (fun h => h.writeProd v) (fun hen => .inl ?_) ?_ ?_ <;>
    simp only [AdmissionRing.writeProd] at *
  · split at hen <;> exact hen
  · split
    · next hwithdrawn =>
      have hidle := hengine.idle_of_not_running (by rw [hwithdrawn.1]; nofun)
      simp [AdmissionRing.emptied, hidle]
    · exact Iff.rfl
  · split <;> rfl

theorem writeRegister_aringInv {s : State} (r : Reg) (v : Word) (h : AringInv s) :
    AringInv (writeRegister r v s) := by
  cases r with
  | control =>
    have hstored := storeMasterEnable_aringInv (v.getLsbD 0) h
    simp only [writeRegister, writeControl]
    split
    · exact aringInv_of_reset hstored rfl rfl (.inl rfl)
    · exact hstored
  | aringBase => exact writeRing_aringInv h fun _ => ⟨rfl, rfl, rfl⟩
  | aringSize => exact writeRing_aringInv h (setSize_marks v)
  | aringCons => exact writeRing_aringInv h fun _ => ⟨rfl, rfl, rfl⟩
  | aringProd => exact writeProd_aringInv v h
  | aringCtrl =>
    simp only [writeRegister, writeAringCtrl]
    split
    · obtain ⟨hfetch, habandoned⟩ := aringTurnOn_flight s.bus.masterEnable s.aring
      exact aringInv_of_onAring h (fun ha => ha.turnOn _) aringTurnOn_enable (by rw [hfetch]) habandoned
    · refine aringInv_of_onAring h (fun ha => ha.turnOff) (fun hen => ?_)
        (aringInv_iff.mp h).1.turnOff_burst (aringTurnOff_abandoned _)
      simp [aringTurnOff_enable] at hen
  | aringStatus =>
    exact aringInv_of_onAring (f := fun a => { a with ring := a.ring.clearFlags v }) h
      (fun ha => ha.withRing rfl rfl rfl ha.heldPublished) .inl Iff.rfl rfl
  | _ => exact aringInv_of_within (writeRegister_within _ v s) rfl rfl h

/-- A fetch starts (R157). -/
theorem fetchStart_aringInv {s : State} (hs : AringInv s) : AringInv (fetchStart s) := by
  unfold fetchStart
  split
  · next hmay =>
    obtain ⟨hengine, hmaster, hfetch⟩ := aringInv_iff.mp hs
    simp only [mayFetch, Bool.and_eq_true, beq_iff_eq, Bool.not_eq_true'] at hmay
    obtain ⟨⟨⟨⟨⟨hrunning, -⟩, -⟩, hidle⟩, -⟩, -⟩ := hmay
    have hbuffer := hengine.buffer
    refine aringInv_iff.mpr ⟨{ hengine with
      fetching := fun _ => hrunning, pendingBurst := fun _ => rfl, buffer := ?_ }, hmaster,
      fun _ => rfl, fun _ => .inl rfl, fun _ => .inl rfl⟩
    rw [hrunning, hidle] at hbuffer
    rw [hrunning]
    exact hbuffer
  · exact hs

/-- The fetch burst ends: the request is gone, and no other fetch is under way or abandoned. -/
theorem fetchAgrees_of_freed {s t : State} (hbus : t.bus = (releaseAdmissionSlot s).bus)
    (hburst : t.aring.fetch ≠ .burst) (habandoned : t.aring.ring.abandoned = false) :
    FetchAgrees t.aring t.bus := by
  refine fetchAgrees_of_idle hburst habandoned ?_ ?_ <;> simp [hbus]

theorem EngineAgrees.discarded (h : EngineAgrees a) :
    EngineAgrees { a with ring := { a.ring with abandoned := false } } :=
  { h with abandonedOff := nofun }

/-- The abandoned fetch's completion with its burst on the bus (R170). -/
theorem discardFetch_aringInv {s : State} (hs : AringInv s) (hab : s.aring.ring.abandoned = true) :
    AringInv (discardFetch (releaseAdmissionSlot s)) := by
  obtain ⟨hengine, hmaster, -⟩ := aringInv_iff.mp hs
  have hidle := hengine.idle_of_not_running (by rw [hengine.abandonedOff hab]; nofun)
  refine aringInv_iff.mpr ⟨hengine.discarded, hmaster, fetchAgrees_of_freed (s := s) rfl ?_ rfl⟩
  change s.aring.fetch ≠ .burst
  rw [hidle]
  nofun

/-- The completion of an abandoned fetch whose slot a power-on reset emptied (log entry 10). -/
theorem discardEmptiedFetch_aringInv {s : State} (hs : AringInv s) (honBus : s.bus.onBus ≠ some .admission) :
    AringInv (discardEmptiedFetch s) := by
  unfold discardEmptiedFetch
  split
  · next hemptied =>
    obtain ⟨hengine, hmaster, -⟩ := aringInv_iff.mp hs
    have hidle := hengine.idle_of_not_running (by rw [hengine.abandonedOff hemptied.1]; nofun)
    refine aringInv_iff.mpr ⟨hengine.discarded, hmaster, fetchAgrees_of_idle ?_ rfl hemptied.2 honBus⟩
    change s.aring.fetch ≠ .burst
    rw [hidle]
    nofun
  · exact hs

/-- A burst of the engine that is not abandoned is that of a fetch (R157, R188). -/
theorem burst_of_onBus {s : State} (hs : AringInv s) (honBus : s.bus.onBus = some .admission)
    (hab : ¬ s.aring.ring.abandoned = true) : s.aring.fetch = .burst :=
  ((aringInv_iff.mp hs).2.2.owned (.inr honBus)).resolve_right hab

theorem fetchDone_aringInv {s : State} (data : Words8) (hs : AringInv s) : AringInv (fetchDone data s) := by
  unfold fetchDone
  split
  · next honBus =>
    split
    · next hab => exact discardFetch_aringInv hs hab
    · next hab =>
      have hburst := burst_of_onBus hs honBus hab
      obtain ⟨hengine, hmaster, -⟩ := aringInv_iff.mp hs
      rw [if_pos hburst]
      have hring : (s.aring.receive data).ring.enable = s.aring.ring.enable
          ∧ (s.aring.receive data).ring.abandoned = s.aring.ring.abandoned := by
        unfold AdmissionRing.receive
        split <;> exact ⟨rfl, rfl⟩
      have hended : (s.aring.receive data).fetch ≠ .burst := by
        unfold AdmissionRing.receive
        split <;> nofun
      exact aringInv_iff.mpr ⟨hengine.receive data hburst, fun hen => hmaster (hring.1 ▸ hen),
        fetchAgrees_of_freed (s := s) rfl hended (hring.2.trans (Bool.eq_false_of_not_eq_true hab))⟩
  · next honBus => exact discardEmptiedFetch_aringInv hs honBus

theorem failFetch_aringInv {s : State} (hs : AringInv s) (hburst : s.aring.fetch = .burst)
    (hab : s.aring.ring.abandoned = false) : AringInv (failFetch (releaseAdmissionSlot s)) := by
  obtain ⟨hengine, hmaster, -⟩ := aringInv_iff.mp hs
  unfold failFetch
  split
  · next hpending =>
    have hpending' : s.aring.ring.disablePending = true := hpending
    exact aringInv_iff.mpr ⟨engineAgrees_disabled (by
      change s.aring.ring.enable = false
      rw [hengine.enable, hpending']
      simp), hmaster, fetchAgrees_of_freed (s := s) rfl nofun hab⟩
  · next hpending =>
    have hpending' : s.aring.ring.disablePending = false := Bool.eq_false_of_not_eq_true hpending
    exact aringInv_iff.mpr ⟨hengine.halted hburst hpending', hmaster, fetchAgrees_of_freed (s := s) rfl nofun hab⟩

theorem fetchError_aringInv {s : State} (hs : AringInv s) : AringInv (fetchError s) := by
  unfold fetchError
  split
  · next honBus =>
    split
    · next hab => exact discardFetch_aringInv hs hab
    · next hab =>
      have hburst := burst_of_onBus hs honBus hab
      rw [if_pos hburst]
      exact failFetch_aringInv hs hburst (Bool.eq_false_of_not_eq_true hab)
  · next honBus => exact discardEmptiedFetch_aringInv hs honBus

/-- The checks of the fields never answer TABLE_FULL (R29). -/
theorem check_ne_tableFull (f : RawFields) : f.check ≠ .error .tableFull := by
  unfold RawFields.check
  split
  · nofun
  · split
    · nofun
    · split
      · nofun
      · split <;> nofun

/-- A validation that finds the table full has passed the checks before (R29, R161). -/
theorem passesFirstChecks_of_tableFull {w : Words8} {s : State}
    (h : validateNow (Candidate.ofWords w) s = .error .tableFull) : passesFirstChecks w = true := by
  unfold validateNow Candidate.validate at h
  have hfields : (Candidate.ofWords w).fields = RawFields.ofWords w := rfl
  cases hcheck : (RawFields.ofWords w).check with
  | error r =>
    simp only [hfields, hcheck] at h
    exact absurd (hcheck.trans (congrArg _ (Except.error.inj h))) (check_ne_tableFull _)
  | ok f =>
    simp only [hfields, hcheck] at h
    simp only [passesFirstChecks, hcheck]
    split at h
    · assumption
    · cases h

/-- The engine finishes a descriptor (R155). -/
theorem aringInv_of_finish {s t : State} (hs : AringInv s) (hon : s.aring.state ≠ .disabled)
    (hfetch : s.aring.fetch ≠ .burst) (haring : t.aring = s.aring.finish) (hbus : t.bus = s.bus) :
    AringInv t := by
  refine aringInv_of_engine hs (fun h => haring ▸ h.finish hon hfetch) (fun hen => .inl ?_) ?_ ?_
    (by rw [hbus]) (by rw [hbus]) (by rw [hbus])
  · rw [haring] at hen
    exact hen
  · rw [haring]
    simp [AdmissionRing.finish, AdmissionRing.emptied, hfetch]
  · rw [haring]
    rfl

theorem descriptorClaim_aringInv {s : State} (hs : AringInv s) : AringInv (descriptorClaim s) := by
  obtain ⟨hengine, -, -⟩ := aringInv_iff.mp hs
  unfold descriptorClaim
  split
  · next w hclaim hw =>
    have hrunning : s.aring.state = .running := hengine.fetching (by rw [hclaim]; nofun)
    have hon : s.aring.state ≠ .disabled := by rw [hrunning]; nofun
    have hfetch : s.aring.fetch ≠ .burst := by rw [hclaim]; nofun
    unfold claimDescriptor
    split
    · next hpublished =>
      split
      · exact aringInv_of_finish hs hon hfetch rfl rfl
      · next hfull =>
        refine aringInv_of_engine hs (fun h => h.hold hclaim hw hpublished (passesFirstChecks_of_tableFull hfull))
          .inl ?_ rfl rfl rfl Iff.rfl
        simp [holdDescriptor, hclaim]
      · exact aringInv_of_finish hs hon hfetch rfl rfl
    · refine aringInv_of_onAring hs (fun h => h.emptied hon hfetch rfl rfl rfl) .inl ?_ rfl
      simp [AdmissionRing.emptied, hclaim]
  · exact hs

theorem retryClaim_aringInv {s : State} (hs : AringInv s) : AringInv (retryClaim s) := by
  obtain ⟨hengine, -, -⟩ := aringInv_iff.mp hs
  unfold retryClaim
  split
  · next hheld hretry hw =>
    have hon : s.aring.state ≠ .disabled := by rw [hheld]; nofun
    have hfetch : s.aring.fetch ≠ .burst := by
      rw [hengine.idle_of_not_running (by rw [hheld]; nofun)]
      nofun
    unfold claimHeld
    split
    · exact aringInv_of_finish hs hon hfetch rfl rfl
    · exact aringInv_of_onAring (f := fun a => { a with retry := false }) hs EngineAgrees.kept .inl Iff.rfl rfl
    · exact aringInv_of_finish hs hon hfetch rfl rfl
  · exact hs

theorem burstGrant_aringInv {s : State} (hs : AringInv s) : AringInv (burstGrant s) := by
  unfold burstGrant
  split
  · exact hs
  · next e he =>
    obtain ⟨hfree, -, hslot⟩ := chooseGrant_some he
    obtain ⟨hengine, hmaster, hfetch⟩ := aringInv_iff.mp hs
    refine aringInv_iff.mpr ⟨hengine, hmaster, hfetch.burstSlot, fun hab => ?_, fun h => ?_⟩
    · obtain h | h | h := hfetch.abandonedSlot hab
      · exact .inl h
      · rw [hfree] at h
        cases h
      · exact .inr (.inr h)
    · obtain h | h := h
      · exact hfetch.owned (.inl h)
      · exact hfetch.owned (.inl (hslot (Option.some.inj h)))

theorem reportWriteStart_aringInv {s : State} (hs : AringInv s) : AringInv (reportWriteStart s) := by
  unfold reportWriteStart
  split
  · exact hs
  · split
    · exact aringInv_of_write hs rfl rfl rfl Iff.rfl
    · exact hs

theorem releaseReportSlot_aringInv {s : State} (hs : AringInv s) (honBus : s.bus.onBus = some .report) :
    AringInv (releaseReportSlot s) :=
  aringInv_of_write hs rfl rfl rfl (by simp [honBus])

/-- The report unit alone changes. -/
theorem aringInv_of_report {s t : State} (hs : AringInv s) (haring : t.aring = s.aring) (hbus : t.bus = s.bus) :
    AringInv t :=
  aringInv_of_write hs haring (by rw [hbus]) (by rw [hbus]) (by rw [hbus])

theorem discardEmptiedWrite_aringInv {s : State} (hs : AringInv s) : AringInv (discardEmptiedWrite s) := by
  obtain hsame | ⟨-, -, hdiscard⟩ := discardEmptiedWrite_eq s
  · rwa [hsame]
  · rw [hdiscard]
    exact aringInv_of_report hs rfl rfl

theorem reportWriteDone_aringInv {s : State} (hs : AringInv s) : AringInv (reportWriteDone s) := by
  unfold reportWriteDone
  split
  · next honBus =>
    have hfreed := releaseReportSlot_aringInv hs honBus
    split
    · exact aringInv_of_report hfreed rfl rfl
    · split
      · exact aringInv_of_report hfreed (deliverRecord_aring _ _) (deliverRecord_bus _ _)
      · exact hfreed
  · exact discardEmptiedWrite_aringInv hs

theorem reportWriteError_aringInv {s : State} (hs : AringInv s) : AringInv (reportWriteError s) := by
  unfold reportWriteError
  split
  · next honBus =>
    have hfreed := releaseReportSlot_aringInv hs honBus
    split
    · exact aringInv_of_report hfreed rfl rfl
    · split
      · simp only [failWrite]
        split <;> exact aringInv_of_report hfreed rfl rfl
      · exact hfreed
  · exact discardEmptiedWrite_aringInv hs

/-- Every row keeps the admission ring engine's invariant. -/
theorem exec_aringInv (c : Instr) (s t : State) (hs : AringInv s) (h : exec c s = .next t) : AringInv t := by
  have hwithin := exec_within h
  cases hw : rowWrite c with
  | some rv =>
    rw [exec_of_writes hw] at h
    exact keeps_of_live h hs (writeRegister_aringInv rv.1 rv.2 hs)
  | none =>
    simp only [rowFootprint, hw] at hwithin
    cases c with
    | powerOnReset =>
      obtain rfl := Host.Outcome.next.inj h
      refine aringInv_of_reset hs rfl rfl ?_
      simp only [powerOnReset_bus, slotAfterPowerOn_eq]
      split
      · next hwithdraws => exact .inr ⟨rfl, hwithdraws⟩
      · exact .inl rfl
    | reportWriteStart => exact keeps_of_live h hs (reportWriteStart_aringInv hs)
    | reportWriteDone => exact Host.Outcome.next.inj h ▸ reportWriteDone_aringInv hs
    | reportWriteError => exact Host.Outcome.next.inj h ▸ reportWriteError_aringInv hs
    | fetchStart => exact keeps_of_live h hs (fetchStart_aringInv hs)
    | fetchDone data => exact Host.Outcome.next.inj h ▸ fetchDone_aringInv data hs
    | fetchError => exact Host.Outcome.next.inj h ▸ fetchError_aringInv hs
    | descriptorClaim => exact keeps_of_live h hs (descriptorClaim_aringInv hs)
    | retryClaim => exact keeps_of_live h hs (retryClaim_aringInv hs)
    | burstGrant => exact Host.Outcome.next.inj h ▸ burstGrant_aringInv hs
    | _ => exact aringInv_of_within hwithin rfl rfl hs

/-- Settles O9: every row keeps the invariant, so every step does. -/
theorem aringInvariantIsKept : Obligations.AringInvariantIsKept :=
  fun _ _ hs h => step_keeps (P := AringInv) (fun _ _ hs => hs) exec_aringInv hs h

end Sys2Proof.Machine
end

section
/-! PROOFS. The response unit's invariant (R120 to R127; O10). Every row is read as what it does to each template
and to the number of its outstanding claims. -/

namespace Sys2Proof.Machine

/-! ### A command taken -/

/-- A command that is issued and taken: the owner's effect, with its answer posted (R172, R173). -/
theorem live_takeCommand_of_issues {c : Command} {owner : Words8 → State → State × Answer} {s : State} {w : Words8}
    (hissues : Issues s c w) (hport : (owner w s).1.port = s.port) :
    live s (takeCommand c owner) = .next
      { (owner w s).1 with
        port := posted s c (owner w s).2.code (owner w s).2.value0 (owner w s).2.value1 } := by
  obtain ⟨hawake, hbuffer⟩ := hissues
  rw [live_of_awake hawake, takeCommand_of_issued hbuffer, hport]
  rfl

/-! ### One template -/

/-- A template's state agrees with the number of its outstanding claims (R126, R130). -/
structure TemplateAgrees (p : Template) (k : Nat) : Prop where
  empty : p.state = .empty → p = Template.reset ∧ k = 0
  armed : p.mode = .oneShot → p.state = .armed → k = 0
  claiming : p.state = .claiming → k = 1 ∧ p.mode = .oneShot

/-- A step of a template with `k` claims keeps the agreement, and makes it ARMED with none outstanding. -/
def TemplateStep (p : Template) (k : Nat) (q : Template) (j : Nat) : Prop :=
  TemplateAgrees p k → TemplateAgrees q j ∧ (p.state ≠ .armed → q.state = .armed → j = 0)

theorem templateStep_refl (p : Template) (k : Nat) : TemplateStep p k p k :=
  fun h => ⟨h, fun hne ha => absurd ha hne⟩

/-- A template that becomes or stays DISARMED. -/
theorem templateStep_disarmed {p q : Template} {k j : Nat} (hq : q.state = .disarmed) : TemplateStep p k q j :=
  fun _ => ⟨⟨by rw [hq]; nofun, by rw [hq]; nofun, by rw [hq]; nofun⟩, by rw [hq]; nofun⟩

/-- Arming with no claim outstanding (R122). -/
theorem templateStep_armed (p : Template) : TemplateStep p 0 { p with state := .armed } 0 :=
  fun _ => ⟨⟨nofun, fun _ _ => rfl, nofun⟩, fun _ _ => rfl⟩

theorem templateStep_disarm (p : Template) (k : Nat) : TemplateStep p k p.disarm k := by
  unfold Template.disarm
  split
  · exact templateStep_disarmed rfl
  · exact templateStep_disarmed rfl
  · exact templateStep_refl p k
  · exact templateStep_refl p k

/-- An ARMED template makes a claim; a ONE_SHOT one becomes CLAIMING (R124). -/
theorem templateStep_trigger {p : Template} {k : Nat} (harmed : p.state = .armed) :
    TemplateStep p k (if p.mode = .oneShot then { p with state := .claiming } else p) (k + 1) := by
  intro h
  split
  · next hone =>
    exact ⟨⟨nofun, nofun, fun _ => ⟨by rw [h.armed hone harmed], hone⟩⟩, nofun⟩
  · next hmode =>
    exact ⟨⟨by rw [harmed]; nofun, fun hone => absurd hone hmode, by rw [harmed]; nofun⟩,
      fun hne => absurd harmed hne⟩

/-- The oldest claim of a template taken (R126, R127): a CLAIMING template has no other. -/
theorem templateStep_settle {p : Template} {k : Nat} {x : TemplateState} (hx : x = .disarmed ∨ x = .armed) :
    TemplateStep p (k + 1) (p.settle x) k := by
  intro h
  unfold Template.settle
  split
  · next hclaiming =>
    have hk : k = 0 := by
      have := (h.claiming hclaiming).1
      omega
    obtain rfl | rfl := hx
    · exact templateStep_disarmed rfl h
    · subst hk
      exact ⟨⟨nofun, fun _ _ => rfl, nofun⟩, fun _ _ => rfl⟩
  · next hne =>
    refine ⟨⟨fun hempty => ?_, fun hone harmed => ?_, fun hclaiming => absurd hclaiming hne⟩,
      fun hna ha => absurd ha hna⟩
    · have := (h.empty hempty).2
      omega
    · have := h.armed hone harmed
      omega

/-! ### The response unit -/

/-- What a step does to each template and to its claims. -/
def ResponseStep (u v : ResponseUnit) : Prop :=
  ∀ n : Fin 8, TemplateStep u.templates[n] (u.claimCount n) v.templates[n] (v.claimCount n)

theorem responseInv_iff {s : State} :
    ResponseInv s ↔ ∀ n : Fin 8, TemplateAgrees s.response.templates[n] (s.response.claimCount n) :=
  forall_congr' fun _ => ⟨fun ⟨h1, h2, h3⟩ => ⟨h1, h2, h3⟩, fun ⟨h1, h2, h3⟩ => ⟨h1, h2, h3⟩⟩

theorem responseStep_refl (u : ResponseUnit) : ResponseStep u u := fun _ => templateStep_refl _ _

theorem responseStep_of_eq {u v : ResponseUnit} (h : v = u) : ResponseStep u v := h ▸ responseStep_refl u

/-- A step of one template and of its claims. -/
theorem responseStep_of_template {u v : ResponseUnit} (n : Fin 8)
    (hothers : ∀ m, m ≠ n → v.templates[m] = u.templates[m] ∧ v.claimCount m = u.claimCount m)
    (hstep : TemplateStep u.templates[n] (u.claimCount n) v.templates[n] (v.claimCount n)) : ResponseStep u v := by
  intro m
  by_cases hm : m = n
  · subst hm
    exact hstep
  · obtain ⟨htemplate, hcount⟩ := hothers m hm
    rw [htemplate, hcount]
    exact templateStep_refl _ _

theorem set_template_same (templates : Vector Template 8) (n : Fin 8) (q : Template) :
    (templates.set n q)[n] = q := by
  simp

theorem set_template_other (templates : Vector Template 8) {n m : Fin 8} (q : Template) (hm : m ≠ n) :
    (templates.set n q)[m] = templates[m] := by
  have hne : (n : Nat) ≠ m := fun h => hm (Fin.ext h.symm)
  simp [hne]

/-- One template written, with claims that are its own added or taken. -/
theorem responseStep_set {u : ResponseUnit} (n : Fin 8) {q : Template} {claims : List ResponseClaim}
    (hothers : ∀ m, m ≠ n → claims.countP (·.line == m) = u.claimCount m)
    (hstep : TemplateStep u.templates[n] (u.claimCount n) q (claims.countP (·.line == n))) :
    ResponseStep u { templates := u.templates.set n q, claims := claims } := by
  refine responseStep_of_template n (fun m hm => ⟨set_template_other _ q hm, hothers m hm⟩) ?_
  rw [set_template_same]
  exact hstep

theorem onTemplate_step {s : State} (n : Fin 8) {f : Template → Template}
    (h : TemplateStep s.response.templates[n] (s.response.claimCount n) (f s.response.templates[n])
      (s.response.claimCount n)) : ResponseStep s.response (onTemplate n f s).response :=
  responseStep_set n (fun _ _ => rfl) h

theorem responseStep_reset (u : ResponseUnit) : ResponseStep u ResponseUnit.reset := by
  intro n _
  simp [ResponseUnit.reset, ResponseUnit.claimCount, Template.reset]
  constructor <;> simp [Template.reset]

/-- No claim is outstanding where none is counted (R120). -/
theorem outstanding_eq_false {u : ResponseUnit} {n : Fin 8} : u.outstanding n = false ↔ u.claimCount n = 0 := by
  simp [ResponseUnit.outstanding, ResponseUnit.claimCount, List.countP_eq_zero]

/-! ### What each row does -/

/-- A claim added counts for its own template. -/
theorem countP_claim (claims : List ResponseClaim) (m : Fin 8) {c : ResponseClaim} :
    (claims ++ [c]).countP (·.line == m) = claims.countP (·.line == m) + if m = c.line then 1 else 0 := by
  rw [List.countP_append, List.countP_singleton]
  simp only [beq_iff_eq, eq_comm (a := m)]

/-- An accepted edge at the response unit. -/
theorem triggerTemplate_step (n : Fin 8) (x : Time) (s : State) :
    ResponseStep s.response (triggerTemplate n x s).response := by
  simp only [triggerTemplate]
  split
  · next harmed =>
    have hstep := templateStep_trigger (k := s.response.claimCount n) harmed
    have hcount := fun m => countP_claim s.response.claims m (c :=
      { line := n, fields := s.response.templates[n].fields, delay := s.response.templates[n].delay, stamp := x })
    have hothers : ∀ m, m ≠ n → _ = s.response.claimCount m := fun m hm =>
      (hcount m).trans (if_neg hm ▸ Nat.add_zero _)
    have hown : _ = s.response.claimCount n + 1 := (hcount n).trans (congrArg _ (if_pos rfl))
    rw [← hown] at hstep
    split
    · next hone =>
      rw [if_pos hone] at hstep
      exact responseStep_set n hothers hstep
    · next hmode =>
      rw [if_neg hmode] at hstep
      exact responseStep_of_template n (fun m hm => ⟨rfl, hothers m hm⟩) hstep
  all_goals exact responseStep_refl _

theorem inputEdge_step (n : Fin 8) (e : Edge) (s : State) :
    ResponseStep s.response (inputEdge n e s).response := by
  simp only [inputEdge]
  split
  · split
    · split
      · exact responseStep_refl _
      · have hedge := triggerTemplate_step n s.timebase.integer
          (offerRecord ((onInput n (fun l => { l with sync := some (edgeLevel e) }) s).capture.inputs[n].record n e
            s.timebase.integer) (onInput n (InputLine.accept s.timebase.integer)
              (onInput n (fun l => { l with sync := some (edgeLevel e) }) s)))
        rw [offerRecord_response] at hedge
        exact hedge
    · exact responseStep_refl _
  · exact responseStep_refl _

theorem responseLoadOwner_step (w : Words8) (s : State) :
    ResponseStep s.response (responseLoadOwner w s).1.response := by
  unfold responseLoadOwner
  split
  · exact responseStep_refl _
  · split
    · exact responseStep_refl _
    · exact onTemplate_step _ (templateStep_disarmed rfl)

/-- RESPONSE_ARM is refused, or the template it names has no claim and becomes ARMED (R122). -/
theorem responseArmOwner_cases (w : Words8) (s : State) :
    (∃ r, r ≠ .ok ∧ responseArmOwner w s = (s, .refusal r))
      ∨ ∃ n : Fin 8, templateIndex w[0].toNat = some n ∧ s.response.claimCount n = 0
        ∧ responseArmOwner w s = (onTemplate n (fun p => { p with state := .armed }) s, .done) := by
  unfold responseArmOwner
  split
  · exact .inl ⟨.badIndex, nofun, rfl⟩
  · next n hn =>
    split
    · exact .inl ⟨.state, nofun, rfl⟩
    · next hmay =>
      refine .inr ⟨n, hn, outstanding_eq_false.mp ?_, rfl⟩
      exact Bool.eq_false_of_not_eq_true fun ho => hmay (.inr ho)

theorem responseArmOwner_step (w : Words8) (s : State) :
    ResponseStep s.response (responseArmOwner w s).1.response := by
  obtain ⟨r, -, hrefused⟩ | ⟨n, -, hnone, harmed⟩ := responseArmOwner_cases w s
  · rw [hrefused]
    exact responseStep_refl _
  · rw [harmed]
    refine onTemplate_step n ?_
    rw [hnone]
    exact templateStep_armed _

theorem responseDisarmOwner_step (w : Words8) (s : State) :
    ResponseStep s.response (responseDisarmOwner w s).1.response := by
  unfold responseDisarmOwner
  split
  · exact responseStep_refl _
  · exact onTemplate_step _ (templateStep_disarm _ _)

theorem responseClaim_step (s : State) : ResponseStep s.response (responseClaim s).response := by
  unfold responseClaim
  split
  · exact responseStep_refl _
  · next c rest hclaims =>
    have hcount : ∀ m, s.response.claimCount m = rest.countP (·.line == m) + if m = c.line then 1 else 0 := by
      intro m
      rw [ResponseUnit.claimCount, hclaims, List.countP_cons]
      simp only [beq_iff_eq, eq_comm (a := m)]
    have hsettled : ∀ x, x = .disarmed ∨ x = .armed →
        ResponseStep s.response
          { templates := s.response.templates.set c.line (s.response.templates[c.line].settle x)
            claims := rest } := fun x hx => by
      refine responseStep_set c.line (fun m hm => ?_) ?_
      · rw [hcount, if_neg hm, Nat.add_zero]
      · rw [hcount, if_pos rfl]
        exact templateStep_settle hx
    split
    · exact hsettled .disarmed (.inl rfl)
    · exact hsettled .armed (.inr rfl)

/-- What each row does to the response unit. -/
theorem exec_responseStep {c : Instr} {s t : State} (h : exec c s = .next t) :
    ResponseStep s.response t.response := by
  have hwithin := exec_within h
  let P : State → Prop := fun u => ResponseStep s.response u.response
  have hs : P s := responseStep_refl _
  cases hw : rowWrite c with
  | some rv =>
    obtain ⟨r, v⟩ := rv
    rw [exec_of_writes hw] at h
    refine keeps_of_live (P := P) h hs ?_
    cases r with
    | control =>
      simp only [P, writeRegister, writeControl]
      split
      · exact responseStep_reset _
      · rw [storeMasterEnable_response]
        exact hs
    | _ => exact responseStep_of_eq ((writeRegister_within _ v s).response rfl)
  | none =>
    simp only [rowFootprint, hw] at hwithin
    cases c with
    | powerOnReset =>
      obtain rfl := Host.Outcome.next.inj h
      exact responseStep_reset _
    | inputEdge n e => exact keeps_of_live (P := P) h hs (inputEdge_step n e s)
    | responseLoad => exact keeps_of_taken (P := P) h (fun _ _ hu => hu) hs fun w => responseLoadOwner_step w s
    | responseArm => exact keeps_of_taken (P := P) h (fun _ _ hu => hu) hs fun w => responseArmOwner_step w s
    | responseDisarm => exact keeps_of_taken (P := P) h (fun _ _ hu => hu) hs fun w => responseDisarmOwner_step w s
    | responseClaim => exact keeps_of_live (P := P) h hs (responseClaim_step s)
    | _ => exact responseStep_of_eq (hwithin.response rfl)

theorem step_responseStep {s t : State} (h : step s = .next t) : ResponseStep s.response t.response := by
  unfold step at h
  split at h
  · obtain rfl := Host.Outcome.next.inj h
    exact responseStep_refl _
  · next rest _ => exact exec_responseStep (s := { s with pending := rest }) h

/-- A RESPONSE_ARM answered OK finds no claim of its template outstanding, and leaves none. -/
theorem responseArm_ok {s t : State} {w : Words8} {n : Fin 8} (hissues : Issues s .responseArm w)
    (hn : w[0].toNat = n.val) (h : exec .responseArm s = .next t) (hok : t.port.result = .ok) :
    s.response.claimCount n = 0 ∧ t.response.claimCount n = 0 := by
  have htaken := live_takeCommand_of_issues (owner := responseArmOwner) hissues (responseArmOwner_port w s)
  obtain rfl := Host.Outcome.next.inj (h.symm.trans htaken)
  obtain ⟨r, hr, hrefused⟩ | ⟨m, hm, hnone, harmed⟩ := responseArmOwner_cases w s
  · simp only [hrefused] at hok
    exact absurd hok hr
  · have hmn : m = n := by
      rw [hn] at hm
      simpa [templateIndex, eq_comm] using hm
    subst hmn
    rw [harmed]
    exact ⟨hnone, hnone⟩

/-- Settles O10: what each row does to a template and the number of its claims. -/
theorem responseInvariantIsKept : Obligations.ResponseInvariantIsKept := by
  refine ⟨fun s t hs h => ?_, fun s t n hs h hne harmed => ?_, fun s t w n => responseArm_ok⟩
  · exact responseInv_iff.mpr fun n => (step_responseStep h n (responseInv_iff.mp hs n)).1
  · exact (step_responseStep h n (responseInv_iff.mp hs n)).2 hne harmed

end Sys2Proof.Machine
end

section
/-! PROOFS. The timebase at saturation (R3) and the values under RESET_N (R186); O11. -/

namespace Sys2Proof.Machine

/-! ### The timebase at saturation -/

theorem timeInv_of_eq {s t : State} (hs : TimeInv s) (h : t.timebase = s.timebase) : TimeInv t := by
  unfold TimeInv
  rw [h]
  exact hs

/-- A change of the timebase that leaves the integer, the fraction and the held trim. -/
theorem timeInv_of_words {s t : State} (hs : TimeInv s) (hinteger : t.timebase.integer = s.timebase.integer)
    (hfraction : t.timebase.fraction = s.timebase.fraction) (hheld : t.timebase.heldTrim = s.timebase.heldTrim) :
    TimeInv t := by
  unfold TimeInv Timebase.saturated at *
  rwa [hinteger, hfraction, hheld]

theorem crossEpoch_timeInv {s : State} (old : Time) (h : TimeInv s) : TimeInv (crossEpoch old s) := by
  unfold crossEpoch
  split
  · exact timeInv_of_words h rfl rfl rfl
  · exact h

/-- A trim is held only below saturation (R3; log entry 29). -/
theorem holdTrim_timeInv {s : State} (old : Time) (h : TimeInv s) : TimeInv (holdTrim old s) := by
  unfold holdTrim
  split
  · next hheld =>
    intro hsaturated
    simp only [Bool.and_eq_true, Bool.not_eq_true'] at hheld
    have hsaturatedS : s.timebase.saturated = true := hsaturated
    exact nomatch hheld.2.symm.trans hsaturatedS
  · exact h

/-- The integer placed at 2^56-1 leaves no fraction and no held trim (R3). -/
theorem placeInteger_timeInv {v : Nat} (hv : v ≤ Config.maxTime) (f : BitVec 24) (s : State) :
    TimeInv (placeInteger v f s) := by
  intro hsaturated
  have hmax : v = Config.maxTime := (toNat_time hv).symm.trans (eq_of_beq hsaturated)
  simp [hmax]

theorem advance_timeInv {s : State} (h : TimeInv s) : TimeInv (advance s) := by
  unfold advance
  split
  · exact h
  · exact crossEpoch_timeInv _ (placeInteger_timeInv (Nat.min_le_right _ _) _ _)

theorem timeStepOwner_timeInv {s : State} (w : Words8) (h : TimeInv s) : TimeInv (timeStepOwner w s).1 := by
  simp only [timeStepOwner]
  split
  · exact h
  · split
    · exact h
    · next hrange =>
      exact timeInv_of_eq (crossEpoch_timeInv _ (holdTrim_timeInv _
        (placeInteger_timeInv (Nat.not_lt.mp hrange) s.timebase.fraction s))) rfl

theorem timeSetOwner_timeInv {s : State} (w : Words8) (h : TimeInv s) : TimeInv (timeSetOwner w s).1 := by
  simp only [timeSetOwner]
  split
  · exact h
  · next hrange =>
    split
    · exact h
    · split
      · exact h
      · split
        · exact h
        · dsimp only
          split
          · exact h
          · exact placeInteger_timeInv (Nat.not_lt.mp hrange) _ _

theorem trimSetOwner_timeInv {s : State} (w : Words8) (h : TimeInv s) : TimeInv (trimSetOwner w s).1 := by
  unfold trimSetOwner
  split
  · exact timeInv_of_words h rfl rfl rfl
  · exact h

/-- Every row keeps the timebase settled. -/
theorem exec_timeInv (c : Instr) (s t : State) (hs : TimeInv s) (h : exec c s = .next t) : TimeInv t := by
  have hwithin := exec_within h
  cases hw : rowWrite c with
  | some rv =>
    obtain ⟨r, v⟩ := rv
    rw [exec_of_writes hw] at h
    refine keeps_of_live h hs ?_
    cases r with
    | control =>
      have hstored : ∀ b, (storeMasterEnable b s).timebase = s.timebase := fun b => by
        unfold storeMasterEnable
        split <;> rfl
      obtain ⟨hinteger, hfraction, hheld⟩ : (writeControl v s).timebase.integer = s.timebase.integer
          ∧ (writeControl v s).timebase.fraction = s.timebase.fraction
          ∧ (writeControl v s).timebase.heldTrim = s.timebase.heldTrim := by
        unfold writeControl
        split <;> simp [hstored]
      exact timeInv_of_words hs hinteger hfraction hheld
    | lateMargin => exact timeInv_of_words hs rfl rfl rfl
    | _ => exact timeInv_of_eq hs ((writeRegister_within _ v s).timebase rfl)
  | none =>
    simp only [rowFootprint, hw] at hwithin
    cases c with
    | powerOnReset =>
      obtain rfl := Host.Outcome.next.inj h
      exact fun _ => ⟨rfl, rfl⟩
    | timebaseAdvance => exact keeps_of_live h hs (advance_timeInv hs)
    | timeStep => exact keeps_of_taken h (fun _ _ hu => hu) hs fun w => timeStepOwner_timeInv w hs
    | timeSet => exact keeps_of_taken h (fun _ _ hu => hu) hs fun w => timeSetOwner_timeInv w hs
    | trimSet => exact keeps_of_taken h (fun _ _ hu => hu) hs fun w => trimSetOwner_timeInv w hs
    | timeLoRead =>
      obtain rfl := Host.Outcome.next.inj h
      split
      · exact hs
      · exact timeInv_of_words hs rfl rfl rfl
    | _ => exact timeInv_of_eq hs (hwithin.timebase rfl)

/-! ### Under RESET_N -/

/-- While RESET_N is asserted a row that does not go on does nothing (R186). -/
theorem exec_of_asserted {c : Instr} {s : State} (hasserted : s.resetAsserted = true) (hc : ¬ goesOnInReset c) :
    exec c s = .next s := by
  cases c with
  | powerOnReset | resetNDeassertion | timeLoRead | headDueLoRead | burstGrant | reportWriteDone | reportWriteError
  | fetchDone _ | fetchError => exact absurd trivial hc
  | _ => exact live_of_asserted hasserted

/-- The values of every block under RESET_N (R186). -/
structure AtReset (s : State) : Prop where
  timebase : s.timebase = Timebase.reset
  table : s.table = Table.reset
  seq : s.seq = Sequencer.reset
  lines : s.lines = LineUnit.reset
  capture : s.capture = CaptureUnit.reset
  response : s.response = ResponseUnit.reset
  report : s.report = { ReportUnit.reset with ring := { Ring.reset with abandoned := s.report.ring.abandoned } }
  aring : s.aring = { AdmissionRing.reset with ring := { Ring.reset with abandoned := s.aring.ring.abandoned } }
  port : s.port = CommandPort.reset
  irq : s.irq = InterruptUnit.reset
  masterEnable : s.bus.masterEnable = false
  narrowFlag : s.bus.narrowFlag = false
  grantMark : s.bus.grantMark = .report

theorem resetInv_iff {s : State} : ResetInv s ↔ (s.resetAsserted = true → AtReset s) := by
  refine imp_congr_right fun _ => ⟨?_, ?_⟩
  · rintro ⟨h1, h2, h3, h4, h5, h6, h7, h8, h9, h10, h11, h12, h13⟩
    exact ⟨h1, h2, h3, h4, h5, h6, h7, h8, h9, h10, h11, h12, h13⟩
  · rintro ⟨h1, h2, h3, h4, h5, h6, h7, h8, h9, h10, h11, h12, h13⟩
    exact ⟨h1, h2, h3, h4, h5, h6, h7, h8, h9, h10, h11, h12, h13⟩

theorem powerOnReset_atReset (s : State) : AtReset (powerOnReset s) := by
  constructor <;> rfl

theorem AtReset.inFlight {s : State} (h : AtReset s) : s.report.inFlight = none := by
  rw [h.report]
  rfl

theorem AtReset.fetch {s : State} (h : AtReset s) : s.aring.fetch = .idle := by
  rw [h.aring]
  rfl

/-- The abandoned write's completion clears its mark (R152). -/
theorem AtReset.discardWrite {s : State} (h : AtReset s) : AtReset (discardWrite s) := by
  refine { h with report := ?_ }
  change { s.report with ring := { s.report.ring with abandoned := false } } = _
  rw [h.report]
  rfl

/-- The abandoned fetch's completion clears its mark (R170). -/
theorem AtReset.discardFetch {s : State} (h : AtReset s) : AtReset (discardFetch s) := by
  refine { h with aring := ?_ }
  change { s.aring with ring := { s.aring.ring with abandoned := false } } = _
  rw [h.aring]
  rfl

theorem AtReset.releaseReportSlot {s : State} (h : AtReset s) : AtReset (releaseReportSlot s) := { h with }

theorem AtReset.releaseAdmissionSlot {s : State} (h : AtReset s) : AtReset (releaseAdmissionSlot s) := { h with }

theorem AtReset.readInReset {s : State} (h : AtReset s) : AtReset (readInReset s) := { h with }

theorem AtReset.discardEmptiedWrite {s : State} (h : AtReset s) : AtReset (discardEmptiedWrite s) := by
  obtain hsame | ⟨-, -, hdiscard⟩ := discardEmptiedWrite_eq s
  · rwa [hsame]
  · rw [hdiscard]
    exact h.discardWrite

theorem AtReset.discardEmptiedFetch {s : State} (h : AtReset s) : AtReset (discardEmptiedFetch s) := by
  obtain hsame | ⟨-, -, hdiscard⟩ := discardEmptiedFetch_eq s
  · rwa [hsame]
  · rw [hdiscard]
    exact h.discardFetch

/-- No write is in flight: a completion can be that of an abandoned one alone. -/
theorem AtReset.reportWriteDone {s : State} (h : AtReset s) : AtReset (reportWriteDone s) := by
  unfold Machine.reportWriteDone
  simp only [h.inFlight]
  split
  · split
    · exact h.releaseReportSlot.discardWrite
    · exact h.releaseReportSlot
  · exact h.discardEmptiedWrite

theorem AtReset.reportWriteError {s : State} (h : AtReset s) : AtReset (reportWriteError s) := by
  unfold Machine.reportWriteError
  simp only [h.inFlight]
  split
  · split
    · exact h.releaseReportSlot.discardWrite
    · exact h.releaseReportSlot
  · exact h.discardEmptiedWrite

theorem AtReset.fetchDone {s : State} (data : Words8) (h : AtReset s) : AtReset (fetchDone data s) := by
  unfold Machine.fetchDone
  simp only [h.fetch, reduceCtorEq, if_false]
  split
  · split
    · exact h.releaseAdmissionSlot.discardFetch
    · exact h.releaseAdmissionSlot
  · exact h.discardEmptiedFetch

theorem AtReset.fetchError {s : State} (h : AtReset s) : AtReset (fetchError s) := by
  unfold Machine.fetchError
  simp only [h.fetch, reduceCtorEq, if_false]
  split
  · split
    · exact h.releaseAdmissionSlot.discardFetch
    · exact h.releaseAdmissionSlot
  · exact h.discardEmptiedFetch

/-- A grant under RESET_N leaves the grant mark (R190; log entry 10). -/
theorem AtReset.burstGrant {s : State} (h : AtReset s) (hasserted : s.resetAsserted = true) :
    AtReset (burstGrant s) := by
  unfold Machine.burstGrant
  split
  · exact h
  · refine { h with grantMark := ?_ }
    simp only [grant, hasserted, if_true]
    exact h.grantMark

/-- Only power-on reset asserts RESET_N (R186). -/
theorem asserted_of_exec {c : Instr} {s t : State} (hc : c ≠ .powerOnReset) (h : exec c s = .next t)
    (ht : t.resetAsserted = true) : s.resetAsserted = true := by
  have hwithin := exec_within h
  cases hw : rowWrite c with
  | some rv =>
    obtain ⟨r, v⟩ := rv
    simp only [rowFootprint, hw] at hwithin
    rw [← hwithin.reset (by cases r <;> rfl)]
    exact ht
  | none =>
    simp only [rowFootprint, hw] at hwithin
    cases c with
    | powerOnReset => exact absurd rfl hc
    | resetNDeassertion =>
      obtain rfl := Host.Outcome.next.inj h
      cases ht
    | _ => exact (hwithin.reset rfl).symm.trans ht

/-- Every row keeps the values under RESET_N. -/
theorem exec_resetInv (c : Instr) (s t : State) (hs : ResetInv s) (h : exec c s = .next t) : ResetInv t := by
  rw [resetInv_iff] at hs ⊢
  intro ht
  by_cases hpower : c = .powerOnReset
  · subst hpower
    obtain rfl := Host.Outcome.next.inj h
    exact powerOnReset_atReset s
  · have hasserted := asserted_of_exec hpower h ht
    have hreset := hs hasserted
    by_cases hgoes : goesOnInReset c
    · cases c with
      | powerOnReset => exact absurd rfl hpower
      | resetNDeassertion =>
        obtain rfl := Host.Outcome.next.inj h
        cases ht
      | timeLoRead | headDueLoRead =>
        obtain rfl := Host.Outcome.next.inj h
        rw [if_pos hasserted]
        exact hreset.readInReset
      | burstGrant => exact Host.Outcome.next.inj h ▸ hreset.burstGrant hasserted
      | reportWriteDone => exact Host.Outcome.next.inj h ▸ hreset.reportWriteDone
      | reportWriteError => exact Host.Outcome.next.inj h ▸ hreset.reportWriteError
      | fetchDone data => exact Host.Outcome.next.inj h ▸ hreset.fetchDone data
      | fetchError => exact Host.Outcome.next.inj h ▸ hreset.fetchError
      | _ => exact hgoes.elim
    · rw [exec_of_asserted hasserted hgoes] at h
      exact Host.Outcome.next.inj h ▸ hreset

/-- Settles O11: every row keeps both invariants, so every step does. -/
theorem saturationAndResetInvariantsAreKept : Obligations.SaturationAndResetInvariantsAreKept :=
  ⟨fun _ _ hs h => step_keeps (P := TimeInv) (fun _ _ hs => hs) exec_timeInv hs h,
    fun _ _ hs h => step_keeps (P := ResetInv) (fun _ _ hs => hs) exec_resetInv hs h⟩

end Sys2Proof.Machine
end

section
/-! PROOFS. The timebase's own operations (R1 to R12; O12 to O16, O18). -/

namespace Sys2Proof.Machine

/-! ### The adder and the epoch boundary -/

/-- A move that does not change the trim does nothing more (R5). -/
theorem crossEpoch_of_kept {old : Time} {s : State} (h : s.timebase.changesTrim old = false) :
    crossEpoch old s = s := by
  simp [crossEpoch, h]

/-- The pending trim becomes active and is announced (R5). -/
theorem crossEpoch_of_changed {old : Time} {s : State} (h : s.timebase.changesTrim old = true) :
    crossEpoch old s =
      { s with
        timebase := { s.timebase with trimActive := s.timebase.trimPending }
        report := s.report.offer { time := s.timebase.integer, body := .trimApplied s.timebase.trimPending }
        irq := s.irq.setIf (s.report.notices.length ≥ 32) .noticeLoss } := by
  rw [crossEpoch, if_pos h, offer_eq]

/-- A move up by less than the range crosses where the epoch numbers differ (R4, R5). -/
theorem changesTrim_iff {old : Time} {b : Timebase} {x : Nat} (hx : b.integer.toNat = x) (hle : old.toNat ≤ x) :
    b.changesTrim old = true ↔ x / 2 ^ 20 ≠ old.toNat / 2 ^ 20 ∧ b.trimPending ≠ b.trimActive := by
  have hmono : old.toNat / 2 ^ 20 ≤ x / 2 ^ 20 := Nat.div_le_div_right hle
  have hepoch : Config.epoch = 2 ^ 20 := rfl
  simp only [Timebase.changesTrim, crossesEpoch, hx, hepoch, Bool.and_eq_true, decide_eq_true_eq, bne_iff_ne]
  refine and_congr_left fun _ => ?_
  omega

/-- The number the adder adds to the integer (R2). -/
def Timebase.ticks (b : Timebase) : Nat := (b.adderSum / 2 ^ 24).toNat

theorem adderSum_eq (b : Timebase) :
    b.adderSum = (b.fraction.toNat : Int) + 2 ^ 24 + (b.heldTrim.getD b.trimActive).toInt := rfl

/-- The trim is small against a tick: the integer moves by 0, 1 or 2 (R2). -/
theorem adderSum_bounds (b : Timebase) : 2 ^ 24 - 2 ^ 15 ≤ b.adderSum ∧ b.adderSum < 2 ^ 25 + 2 ^ 15 := by
  have hlo := BitVec.le_toInt (x := b.heldTrim.getD b.trimActive)
  have hhi := BitVec.toInt_lt (x := b.heldTrim.getD b.trimActive)
  have hfraction := b.fraction.isLt
  rw [adderSum_eq]
  omega

theorem ticks_cases (b : Timebase) :
    (b.adderSum < 2 ^ 24 → b.ticks = 0) ∧ (2 ^ 24 ≤ b.adderSum → b.adderSum < 2 ^ 25 → b.ticks = 1)
      ∧ (2 ^ 25 ≤ b.adderSum → b.ticks = 2) := by
  have hbounds := adderSum_bounds b
  unfold Timebase.ticks
  omega

/-- The timebase after an advance below saturation, before the epoch boundary (R2). -/
def Timebase.moved (b : Timebase) : Timebase :=
  { b with
    integer := BitVec.ofNat 56 (b.integer.toNat + b.ticks)
    fraction := BitVec.ofNat 24 (b.adderSum % 2 ^ 24).toNat
    heldTrim := none }

theorem saturated_iff {b : Timebase} : b.saturated = true ↔ b.integer.toNat = 2 ^ 56 - 1 := beq_iff_eq

/-- An advance that stays below saturation (R2, R5). -/
theorem advance_below {s : State} (hx : s.timebase.integer.toNat + s.timebase.ticks < 2 ^ 56 - 1) :
    advance s = crossEpoch s.timebase.integer { s with timebase := s.timebase.moved } := by
  have hbelow : ¬ s.timebase.saturated = true := fun h => by
    rw [saturated_iff] at h
    omega
  have hmin : min (s.timebase.integer.toNat + s.timebase.ticks) Config.maxTime
      = s.timebase.integer.toNat + s.timebase.ticks := Nat.min_eq_left (Nat.le_of_lt hx)
  have hne : s.timebase.integer.toNat + s.timebase.ticks ≠ Config.maxTime := Nat.ne_of_lt hx
  have hticks : (s.timebase.adderSum / Config.tickUnits).toNat = s.timebase.ticks := rfl
  simp only [advance, if_neg hbelow, hticks, hmin, placeInteger, if_neg hne]
  rfl

/-- An advance to or beyond 2^56-1 (R3). -/
theorem advance_stops {s : State} (hbelow : s.timebase.integer.toNat < 2 ^ 56 - 1)
    (hx : 2 ^ 56 - 1 ≤ s.timebase.integer.toNat + s.timebase.ticks) :
    advance s = crossEpoch s.timebase.integer
      { s with
        timebase := { s.timebase with integer := BitVec.allOnes 56, fraction := 0, heldTrim := none }
        irq := { s.irq with causes := s.irq.causes ||| Cause.timeLimit.bit } } := by
  have hsat : ¬ s.timebase.saturated = true := fun h => by
    rw [saturated_iff] at h
    omega
  have hmin : min (s.timebase.integer.toNat + s.timebase.ticks) Config.maxTime = Config.maxTime :=
    Nat.min_eq_right hx
  have hticks : (s.timebase.adderSum / Config.tickUnits).toNat = s.timebase.ticks := rfl
  have hones : BitVec.ofNat 56 Config.maxTime = BitVec.allOnes 56 := rfl
  simp only [advance, if_neg hsat, hticks, hmin, placeInteger, if_true, hones]
  rfl

/-- Settles O12: the adder's sum, and the two courses at an epoch boundary. -/
theorem advanceAddsTickAndTrim : Obligations.AdvanceAddsTickAndTrim := by
  intro s hawake v trim sum x moved
  have hx : x = v + s.timebase.ticks := rfl
  obtain ⟨h0, h1, h2⟩ := ticks_cases s.timebase
  refine ⟨fun h => by rw [hx, h0 h]; rfl, fun h h' => by rw [hx, h1 h h'], fun h => by rw [hx, h2 h],
    fun _ hbelow => ?_⟩
  have hexec : exec .timebaseAdvance s = .next (crossEpoch s.timebase.integer { s with timebase := moved }) := by
    exact (live_of_awake hawake).trans (congrArg _ (advance_below hbelow))
  have hinteger : moved.integer.toNat = x := toNat_time (Nat.le_of_lt hbelow)
  have hiff := changesTrim_iff (b := moved) hinteger (Nat.le_add_right v s.timebase.ticks)
  refine ⟨fun hkept => ?_, fun hcross hdiffer => ?_⟩
  · exact hexec.trans (congrArg _ (crossEpoch_of_kept
      (Bool.eq_false_of_not_eq_true fun h => hkept.elim (hiff.mp h).1 (hiff.mp h).2)))
  · exact hexec.trans (congrArg _ (crossEpoch_of_changed (hiff.mpr ⟨hcross, hdiffer⟩)))

/-- The top of the range crosses no epoch boundary from 2 below it (R4). -/
theorem changesTrim_top {s : State} (hbelow : s.timebase.integer.toNat < 2 ^ 56 - 1)
    (hx : 2 ^ 56 - 1 ≤ s.timebase.integer.toNat + s.timebase.ticks) :
    Timebase.changesTrim s.timebase.integer
      { s.timebase with integer := BitVec.allOnes 56, fraction := 0, heldTrim := none } = false := by
  have hticks : s.timebase.ticks ≤ 2 := by
    have hbounds := adderSum_bounds s.timebase
    unfold Timebase.ticks
    omega
  refine Bool.eq_false_of_not_eq_true fun h => ?_
  have hne := ((changesTrim_iff (x := 2 ^ 56 - 1) rfl (Nat.le_of_lt hbelow)).mp h).1
  omega

/-- Settles O13. -/
theorem advanceStopsAtSaturation : Obligations.AdvanceStopsAtSaturation := by
  intro s hawake v trim sum
  have hexec : exec .timebaseAdvance s = .next (advance s) := live_of_awake hawake
  refine ⟨fun hsat => ?_, fun hbelow hx => ?_⟩
  · exact hexec.trans (congrArg _ (if_pos (saturated_iff.mpr hsat)))
  · have hkept := crossEpoch_of_kept (s := { s with
        timebase := { s.timebase with integer := BitVec.allOnes 56, fraction := 0, heldTrim := none }
        irq := { s.irq with causes := s.irq.causes ||| Cause.timeLimit.bit } }) (changesTrim_top hbelow hx)
    exact hexec.trans (congrArg _ ((advance_stops hbelow hx).trans hkept))

/-! ### TIME_SET and TRIM_SET -/

/-- A command that is refused changes nothing but the port (R173). -/
theorem live_refused_of_issues {c : Command} {owner : Words8 → State → State × Answer} {s : State} {w : Words8}
    {r : ResultCode} (hissues : Issues s c w) (howner : owner w s = (s, .refusal r)) :
    live s (takeCommand c owner) = .next { s with port := posted s c r 0 0 } := by
  rw [live_takeCommand_of_issues hissues (by rw [howner]), howner]
  rfl

/-- A command that is taken: what it does, and what it answers. -/
theorem live_taken_of_issues {c : Command} {owner : Words8 → State → State × Answer} {s t : State} {w : Words8}
    {a : Answer} (hissues : Issues s c w) (howner : owner w s = (t, a)) (hport : t.port = s.port) :
    live s (takeCommand c owner) = .next { t with port := posted s c a.code a.value0 a.value1 } := by
  rw [live_takeCommand_of_issues hissues (by rw [howner, hport]), howner]

/-- The two words of a time (R7, R9). -/
theorem low_ofNat (x : Nat) : Time.low (BitVec.ofNat 56 x) = BitVec.ofNat 32 x := by
  refine BitVec.eq_of_toNat_eq ?_
  simp only [Time.low, BitVec.extractLsb'_toNat, BitVec.toNat_ofNat, Nat.shiftRight_zero]
  omega

theorem highWord_ofNat {x : Nat} (hx : x ≤ 2 ^ 56 - 1) :
    highWord (Time.high (BitVec.ofNat 56 x)) = BitVec.ofNat 32 (x / 2 ^ 32) := by
  refine BitVec.eq_of_toNat_eq ?_
  simp only [highWord, Time.high, BitVec.extractLsb'_toNat, BitVec.toNat_ofNat, BitVec.toNat_setWidth,
    Nat.shiftRight_eq_div_pow]
  omega

theorem timeAnswer_ofNat {x : Nat} (hx : x ≤ 2 ^ 56 - 1) : timeAnswer (BitVec.ofNat 56 x) =
    { code := .ok, value0 := BitVec.ofNat 32 x, value1 := BitVec.ofNat 32 (x / 2 ^ 32) } := by
  rw [timeAnswer, low_ofNat x, highWord_ofNat hx]

/-- A line is in PATTERN mode where its generator runs (R85). -/
theorem patternMask_eq_zero_iff {l : LineUnit} : l.patternMask = 0 ↔ ∀ n : Fin 16, l.gens[n].running = false := by
  refine ⟨fun h n => ?_, fun h => ?_⟩
  · rw [← getLsbD_patternMask, h]
    exact BitVec.getLsbD_zero
  · refine BitVec.eq_of_getLsbD_eq fun i hi => ?_
    rw [getLsbD_patternMask l ⟨i, hi⟩, h]
    exact BitVec.getLsbD_zero.symm

theorem patternMask_ne_zero_iff {l : LineUnit} :
    l.patternMask ≠ 0 ↔ ∃ n : Fin 16, l.gens[n].running = true := by
  rw [Ne, patternMask_eq_zero_iff, not_forall]
  exact exists_congr fun n => iff_of_eq (Bool.not_eq_false _)

/-- TIME_SET past its four checks (R9, R10). -/
theorem timeSetOwner_of_checked {w : Words8} {s : State} (h1 : ¬ 2 ^ 56 - 1 < argument64 w)
    (h2 : s.seq.state = .stopped) (h3 : ¬ s.table.entries.any Entry.isTrail = true)
    (h4 : ¬ s.lines.patternMask ≠ 0) :
    timeSetOwner w s =
      (if s.timebase.saturated ∧ argument64 w = 2 ^ 56 - 1 then s else placeInteger (argument64 w) 0 s,
        timeAnswer (BitVec.ofNat 56 (argument64 w))) := by
  have h1' : ¬ Config.maxTime < wideArgument w := h1
  simp only [timeSetOwner, if_neg h1', if_neg (not_not.mpr h2), if_neg h3, if_neg h4]
  rfl

/-- Settles O15: the four checks in order, and the placing. -/
theorem timeSetPlacesTheInteger : Obligations.TimeSetPlacesTheInteger := by
  intro s w hissues v refused trail busy
  have htrail : s.table.entries.any Entry.isTrail = true ↔ trail := by
    simp [trail, Entry.isTrail]
  have hbusy : s.lines.patternMask ≠ 0 ↔ busy := patternMask_ne_zero_iff
  have hrange : v ≤ 2 ^ 56 - 1 → ¬ Config.maxTime < wideArgument w := Nat.not_lt.mpr
  refine ⟨fun h1 => live_refused_of_issues hissues ?_, fun h1 h2 => live_refused_of_issues hissues ?_,
    fun h1 h2 h3 => live_refused_of_issues hissues ?_, fun h1 h2 h3 h4 => live_refused_of_issues hissues ?_,
    fun h1 h2 h3 h4 => ?_⟩
  · exact if_pos h1
  · simp only [timeSetOwner, if_neg (hrange h1), if_pos h2]
  · simp only [timeSetOwner, if_neg (hrange h1), if_neg (not_not.mpr h2), if_pos (htrail.mpr h3)]
  · simp only [timeSetOwner, if_neg (hrange h1), if_neg (not_not.mpr h2), if_neg (mt htrail.mp h3),
      if_pos (hbusy.mpr h4)]
  · have howner := timeSetOwner_of_checked (hrange h1) h2 (mt htrail.mp h3) (mt hbusy.mp h4)
    rw [timeAnswer_ofNat h1] at howner
    split
    · next hsame =>
      rw [if_pos ⟨saturated_iff.mpr hsame.2, hsame.1⟩] at howner
      exact live_taken_of_issues hissues howner rfl
    · next hmoves =>
      rw [if_neg fun h => hmoves ⟨h.2, saturated_iff.mp h.1⟩] at howner
      refine (live_taken_of_issues hissues howner rfl).trans ?_
      simp only [placeInteger, ite_self]
      rfl

/-- A word in the signed 16-bit range is the trim it is read as (R6). -/
theorem toInt_trim {x : Word} (hlo : -32768 ≤ x.toInt) (hhi : x.toInt ≤ 32767) :
    (x.setWidth 16).toInt = x.toInt := by
  have hx := x.isLt
  rw [BitVec.toInt_eq_toNat_cond] at hlo hhi ⊢
  rw [BitVec.toInt_eq_toNat_cond, BitVec.toNat_setWidth]
  split at hlo <;> split <;> omega

/-- Settles O16. -/
theorem trimSetStoresThePendingTrim : Obligations.TrimSetStoresThePendingTrim := by
  intro s w hissues
  refine ⟨fun hout => live_refused_of_issues hissues (if_neg fun h => by omega), fun hlo hhi => ?_⟩
  have htrim := toInt_trim hlo hhi
  have hanswer : (w[0].setWidth 16).signExtend 32 = w[0] := by
    refine BitVec.eq_of_toInt_eq ?_
    rw [BitVec.toInt_signExtend_of_le (by decide), htrim]
  refine ⟨htrim, (live_taken_of_issues (owner := trimSetOwner) hissues (if_pos ⟨hlo, hhi⟩) rfl).trans ?_⟩
  simp only [hanswer]

/-- Settles O18. -/
theorem lowWordReadsCaptureTheHold : Obligations.LowWordReadsCaptureTheHold := by
  intro s
  refine ⟨fun hawake => ⟨congrArg _ (if_neg (by simp [hawake])), fun due hempty hhead => ?_,
    readOffset_of_mapped (r := .timeHi) hawake rfl, readOffset_of_mapped (r := .headDueHi) hawake rfl⟩, fun hasserted => ?_⟩
  · have hdue : headDue s.table.entries = due := by
      cases hes : s.table.entries with
      | nil => exact (hempty hes).symm
      | cons e rest => exact (hhead e rest hes).symm
    refine (congrArg _ (if_neg (by simp [hawake]))).trans ?_
    rw [readHeadDueLo, hdue]
    rfl
  · exact ⟨congrArg _ (if_pos hasserted), congrArg _ (if_pos hasserted)⟩

end Sys2Proof.Machine
end

section
/-! PROOFS. TIME_STEP (R5, R7, R106; O14): what a step leaves, and that a step and an advance of one trim leave the
same time in both orders. -/

namespace Sys2Proof.Machine

/-! ### The grid of a generator that a step passes -/

theorem overtaken_of_not_passed {g : Generator} {x : Nat} (h : g.running = false ∨ x ≤ g.nextStart) :
    g.overtaken x = g := by
  refine if_neg fun hpassed => ?_
  obtain h | h := h
  · simp [h] at hpassed
  · exact absurd hpassed.2 (Nat.not_lt.mpr h)

/-- The point of the grid that a step leads to is the first at or after the new integer (R106). -/
theorem gridFrom_least {start period x : Nat} (hperiod : 0 < period) :
    (∃ j, gridFrom start period x = start + j * period) ∧ x ≤ gridFrom start period x
      ∧ ∀ j, x ≤ start + j * period → gridFrom start period x ≤ start + j * period := by
  unfold gridFrom
  refine ⟨⟨_, rfl⟩, ?_, fun j hj => ?_⟩
  · have hup : x - start ≤ (x - start + (period - 1)) / period * period := by
      have hmod := Nat.mod_lt (x - start + (period - 1)) hperiod
      have hdiv := Nat.div_add_mod (x - start + (period - 1)) period
      rw [Nat.mul_comm] at hdiv
      omega
    omega
  · have hle : (x - start + (period - 1)) / period ≤ j := by
      refine Nat.lt_succ_iff.mp ((Nat.div_lt_iff_lt_mul hperiod).mpr ?_)
      rw [Nat.succ_mul]
      omega
    exact Nat.add_le_add_left (Nat.mul_le_mul_right period hle) start

/-! ### The integer moved by a step -/

/-- The integer placed at `x` by a step, with the fraction kept below 2^56-1 (log entry 25). -/
def stepped (s : State) (x : Nat) : State := placeInteger x s.timebase.fraction s

/-- TIME_STEP past its two refusals (R7). -/
theorem timeStepOwner_of_accepted {s : State} {w : Words8} {x : Nat} (hpos : 0 < argument64 w)
    (hrange : argument64 w ≤ 2 ^ 40 - 1) (hx : s.timebase.integer.toNat + argument64 w = x) (htop : x ≤ 2 ^ 56 - 1) :
    timeStepOwner w s =
      ({ crossEpoch s.timebase.integer (holdTrim s.timebase.integer (stepped s x)) with
          lines := s.lines.overtaken x },
        timeAnswer (BitVec.ofNat 56 x)) := by
  have h1 : ¬ (wideArgument w = 0 ∨ Config.maxStep < wideArgument w) := by
    have hd : wideArgument w = argument64 w := rfl
    have hmax : Config.maxStep = 2 ^ 40 - 1 := rfl
    omega
  have hx' : s.timebase.integer.toNat + wideArgument w = x := hx
  have h2 : ¬ Config.maxTime < x := Nat.not_lt.mpr htop
  simp only [timeStepOwner, if_neg h1, hx', if_neg h2, crossEpoch_lines, holdTrim_lines]
  rfl

theorem stepped_changesTrim {s : State} {x : Nat} (hle : s.timebase.integer.toNat ≤ x) (htop : x ≤ 2 ^ 56 - 1) :
    (stepped s x).timebase.changesTrim s.timebase.integer = true ↔
      x / 2 ^ 20 ≠ s.timebase.integer.toNat / 2 ^ 20 ∧ s.timebase.trimPending ≠ s.timebase.trimActive :=
  changesTrim_iff (b := (stepped s x).timebase) (toNat_time htop) hle

theorem stepped_saturated {s : State} {x : Nat} (htop : x ≤ 2 ^ 56 - 1) :
    (stepped s x).timebase.saturated = decide (x = 2 ^ 56 - 1) := by
  have hx : (stepped s x).timebase.integer.toNat = x := toNat_time htop
  rw [Timebase.saturated, hx]
  rfl

/-- The integer placed at `x`, and the trim of before held for the advance of the period (log entry 29). -/
def steppedHolding (s : State) (x : Nat) : State :=
  { stepped s x with
    timebase := { (stepped s x).timebase with
      heldTrim := (stepped s x).timebase.heldTrim.or
        (if Config.stepSharesPeriod s.periodDraws then some s.timebase.trimActive else none) }
    periodDraws := s.periodDraws + 1 }

/-- A step that changes the trim below saturation holds it (R5; log entry 29). -/
theorem holdTrim_stepped {s : State} {x : Nat} (htop : x ≤ 2 ^ 56 - 1) (hmax : x ≠ 2 ^ 56 - 1)
    (hchanges : (stepped s x).timebase.changesTrim s.timebase.integer = true) :
    holdTrim s.timebase.integer (stepped s x) = steppedHolding s x := by
  simp only [holdTrim, hchanges, stepped_saturated htop, decide_eq_false hmax, Bool.not_false, Bool.and_true, if_true]
  rfl

/-- What a step leaves at an epoch boundary (R5; log entry 29). -/
theorem step_moved {s : State} {x : Nat} (hle : s.timebase.integer.toNat ≤ x) (htop : x ≤ 2 ^ 56 - 1) :
    crossEpoch s.timebase.integer (holdTrim s.timebase.integer (stepped s x)) =
      let crossed := x / 2 ^ 20 ≠ s.timebase.integer.toNat / 2 ^ 20
        ∧ s.timebase.trimPending ≠ s.timebase.trimActive
      { s with
        timebase := { s.timebase with
          integer := BitVec.ofNat 56 x
          fraction := if x = 2 ^ 56 - 1 then 0 else s.timebase.fraction
          trimActive := if crossed then s.timebase.trimPending else s.timebase.trimActive
          heldTrim := if x = 2 ^ 56 - 1 then none
            else if crossed then
              s.timebase.heldTrim.or
                (if Config.stepSharesPeriod s.periodDraws then some s.timebase.trimActive else none)
            else s.timebase.heldTrim }
        periodDraws := if crossed ∧ x ≠ 2 ^ 56 - 1 then s.periodDraws + 1 else s.periodDraws
        report := if crossed then
            s.report.offer { time := BitVec.ofNat 56 x, body := .trimApplied s.timebase.trimPending }
          else s.report
        irq := (s.irq.setIf (x = 2 ^ 56 - 1) .timeLimit).setIf
          (crossed ∧ s.report.notices.length ≥ 32) .noticeLoss } := by
  have hchanges := stepped_changesTrim hle htop
  have hsat := stepped_saturated (s := s) htop
  have hplaced : (x = Config.maxTime) = (x = 2 ^ 56 - 1) := rfl
  by_cases hcross : x / 2 ^ 20 ≠ s.timebase.integer.toNat / 2 ^ 20
      ∧ s.timebase.trimPending ≠ s.timebase.trimActive
  · have hand : ∀ q : Prop, ((x / 2 ^ 20 ≠ s.timebase.integer.toNat / 2 ^ 20
        ∧ s.timebase.trimPending ≠ s.timebase.trimActive) ∧ q) = q := fun q => propext (and_iff_right hcross)
    have htrue := hchanges.mpr hcross
    simp only [if_pos hcross, hand]
    by_cases hmax : x = 2 ^ 56 - 1
    · have hheld : holdTrim s.timebase.integer (stepped s x) = stepped s x :=
        holdTrim_of_saturated (by rw [hsat, decide_eq_true hmax])
      rw [hheld, crossEpoch_of_changed htrue]
      simp only [stepped, placeInteger, hplaced, if_pos hmax, if_neg (not_not.mpr hmax), InterruptUnit.setIf]
      rfl
    · rw [holdTrim_stepped htop hmax htrue, crossEpoch_of_changed (s := steppedHolding s x) htrue]
      simp only [steppedHolding, stepped, placeInteger, hplaced, if_neg hmax, if_pos (show x ≠ 2 ^ 56 - 1 from hmax),
        InterruptUnit.setIf]
  · have hand : ∀ q : Prop, ((x / 2 ^ 20 ≠ s.timebase.integer.toNat / 2 ^ 20
        ∧ s.timebase.trimPending ≠ s.timebase.trimActive) ∧ q) = False :=
      fun q => propext (iff_of_false (fun h => hcross h.1) id)
    have hfalse := Bool.eq_false_of_not_eq_true (mt hchanges.mp hcross)
    have hheld : holdTrim s.timebase.integer (stepped s x) = stepped s x := by
      simp only [holdTrim, hfalse, Bool.false_and, Bool.false_eq_true, if_false]
    rw [hheld, crossEpoch_of_kept hfalse]
    simp only [if_neg hcross, hand, if_false, InterruptUnit.setIf]
    rfl

/-! ### The time after a step and after an advance -/

/-- The integer moves up by `n` from `b` to `c`, with the fraction `f` and the trims of an epoch boundary (R4, R5). -/
structure Moves (b c : Timebase) (n : Nat) (f : BitVec 24) : Prop where
  integer : c.integer.toNat = b.integer.toNat + n
  fraction : c.fraction = f
  trimPending : c.trimPending = b.trimPending
  trimActive : c.trimActive =
    if (b.integer.toNat + n) / 2 ^ 20 = b.integer.toNat / 2 ^ 20 then b.trimActive else b.trimPending

/-- An active trim chosen at a boundary only where it differs is the one chosen there in any case (R5). -/
theorem trim_of_crossed {p : Prop} [Decidable p] (pending active : Trim) :
    (if ¬ p ∧ pending ≠ active then pending else active) = if p then active else pending := by
  by_cases hp : p
  · simp [hp]
  · by_cases hsame : pending = active
    · simp [hsame]
    · simp [hp, hsame]

theorem crossEpoch_moves {b : Timebase} {s : State} {n : Nat} (hinteger : s.timebase.integer.toNat = b.integer.toNat + n)
    (hpending : s.timebase.trimPending = b.trimPending) (hactive : s.timebase.trimActive = b.trimActive) :
    Moves b (crossEpoch b.integer s).timebase n s.timebase.fraction := by
  have hiff := changesTrim_iff (b := s.timebase) hinteger (Nat.le_add_right _ n)
  rw [hpending, hactive] at hiff
  by_cases hchanged : s.timebase.changesTrim b.integer = true
  · rw [crossEpoch_of_changed hchanged]
    refine ⟨hinteger, rfl, hpending, ?_⟩
    rw [← trim_of_crossed, if_pos (hiff.mp hchanged)]
    exact hpending
  · rw [crossEpoch_of_kept (Bool.eq_false_of_not_eq_true hchanged)]
    refine ⟨hinteger, rfl, hpending, ?_⟩
    rw [← trim_of_crossed, if_neg (mt hiff.mpr hchanged)]
    exact hactive

/-- An advance below saturation (R2, R5). -/
theorem advance_moves {s : State} (hx : s.timebase.integer.toNat + s.timebase.ticks < 2 ^ 56 - 1) :
    Moves s.timebase (advance s).timebase s.timebase.ticks (BitVec.ofNat 24 (s.timebase.adderSum % 2 ^ 24).toNat) := by
  rw [advance_below hx]
  exact crossEpoch_moves (s := { s with timebase := s.timebase.moved }) (toNat_time (Nat.le_of_lt hx)) rfl rfl

/-- A step below saturation (R7). -/
theorem timeStepOwner_moves {s : State} {w : Words8} (hpos : 0 < argument64 w) (hrange : argument64 w ≤ 2 ^ 40 - 1)
    (hx : s.timebase.integer.toNat + argument64 w < 2 ^ 56 - 1) :
    Moves s.timebase (timeStepOwner w s).1.timebase (argument64 w) s.timebase.fraction := by
  rw [timeStepOwner_of_accepted hpos hrange rfl (Nat.le_of_lt hx)]
  obtain ⟨held, draws, hheld⟩ := holdTrim_eq s.timebase.integer (stepped s (s.timebase.integer.toNat + argument64 w))
  have hmoves := crossEpoch_moves (b := s.timebase) (n := argument64 w)
    (s := holdTrim s.timebase.integer (stepped s (s.timebase.integer.toNat + argument64 w)))
    (by rw [hheld]; exact toNat_time (Nat.le_of_lt hx)) (by rw [hheld]; rfl) (by rw [hheld]; rfl)
  have hfraction : (holdTrim s.timebase.integer
      (stepped s (s.timebase.integer.toNat + argument64 w))).timebase.fraction = s.timebase.fraction := by
    rw [hheld]
    exact if_neg (Nat.ne_of_lt hx)
  rw [hfraction] at hmoves
  exact hmoves

/-- Two moves up cross a boundary where the whole way does (R4). -/
theorem trim_of_two_moves {v y x : Nat} (hy : v ≤ y) (hx : y ≤ x) (active pending : Trim) :
    (if x / 2 ^ 20 = y / 2 ^ 20 then (if y / 2 ^ 20 = v / 2 ^ 20 then active else pending) else pending) =
      if x / 2 ^ 20 = v / 2 ^ 20 then active else pending := by
  have hmono : v / 2 ^ 20 ≤ y / 2 ^ 20 := Nat.div_le_div_right hy
  have hmono' : y / 2 ^ 20 ≤ x / 2 ^ 20 := Nat.div_le_div_right hx
  by_cases hwhole : x / 2 ^ 20 = v / 2 ^ 20
  · rw [if_pos hwhole, if_pos (by omega), if_pos (by omega)]
  · rw [if_neg hwhole]
    split
    · exact if_neg (by omega)
    · rfl

/-- Two moves up leave, in both orders, one time (log entry 29). -/
theorem Moves.comm {b c u a e : Timebase} {d n : Nat} {f g : BitVec 24} (hc : Moves b c d f) (hu : Moves c u n g)
    (ha : Moves b a n g) (he : Moves a e d a.fraction) :
    u.integer = e.integer ∧ u.fraction = e.fraction ∧ u.trimActive = e.trimActive
      ∧ u.trimPending = e.trimPending := by
  refine ⟨BitVec.eq_of_toNat_eq ?_, ?_, ?_, ?_⟩
  · rw [hu.integer, hc.integer, he.integer, ha.integer]
    omega
  · rw [hu.fraction, he.fraction, ha.fraction]
  · rw [hu.trimActive, hc.integer, hc.trimPending, hc.trimActive, he.trimActive, ha.integer, ha.trimPending,
      ha.trimActive, trim_of_two_moves (by omega) (by omega), trim_of_two_moves (by omega) (by omega)]
    simp only [Nat.add_right_comm]
  · rw [hu.trimPending, hc.trimPending, he.trimPending, ha.trimPending]

theorem timeStepOwner_timebase {s t : State} {w : Words8} (hissues : Issues s .timeStep w)
    (h : exec .timeStep s = .next t) : (timeStepOwner w s).1.timebase = t.timebase := by
  obtain rfl := Host.Outcome.next.inj
    ((live_takeCommand_of_issues hissues (timeStepOwner_port w s)).symm.trans h)
  rfl

/-- A step and an advance of one trim commute below saturation (log entry 29). -/
theorem step_advance_comm {s t u a b : State} {w : Words8} (hissues : Issues s .timeStep w)
    (hpos : 0 < argument64 w) (hrange : argument64 w ≤ 2 ^ 40 - 1)
    (hroom : s.timebase.integer.toNat + argument64 w + 2 < 2 ^ 56 - 1)
    (hstep : exec .timeStep s = .next t) (hadvance : exec .timebaseAdvance t = .next u)
    (hadvance' : exec .timebaseAdvance s = .next a) (hstep' : exec .timeStep a = .next b)
    (htrim : t.timebase.heldTrim.getD t.timebase.trimActive = s.timebase.heldTrim.getD s.timebase.trimActive) :
    u.timebase.integer = b.timebase.integer ∧ u.timebase.fraction = b.timebase.fraction
      ∧ u.timebase.trimActive = b.timebase.trimActive ∧ u.timebase.trimPending = b.timebase.trimPending := by
  have hticks : s.timebase.ticks ≤ 2 := by
    have hbounds := adderSum_bounds s.timebase
    unfold Timebase.ticks
    omega
  have hawake : Awake t := ((exec_within hstep).reset rfl).trans hissues.1
  have ha : advance s = a := Host.Outcome.next.inj ((live_of_awake hissues.1).symm.trans hadvance')
  have hu : advance t = u := Host.Outcome.next.inj ((live_of_awake hawake).symm.trans hadvance)
  have hissues' : Issues a .timeStep w :=
    ⟨((exec_within hadvance').reset rfl).trans hissues.1, by rw [← ha, advance_port]; exact hissues.2⟩
  have ht : (timeStepOwner w s).1.timebase = t.timebase := timeStepOwner_timebase hissues hstep
  have hb : (timeStepOwner w a).1.timebase = b.timebase := timeStepOwner_timebase hissues' hstep'
  have hst : Moves s.timebase t.timebase (argument64 w) s.timebase.fraction :=
    ht ▸ timeStepOwner_moves hpos hrange (by omega)
  have hsa : Moves s.timebase a.timebase _ _ := ha ▸ advance_moves (s := s) (by omega)
  have hsum : t.timebase.adderSum = s.timebase.adderSum := by
    rw [adderSum_eq, adderSum_eq, hst.fraction, htrim]
  have htu : Moves t.timebase u.timebase _ _ := hu ▸ advance_moves (s := t) (by
    rw [hst.integer, Timebase.ticks, hsum]
    change s.timebase.integer.toNat + argument64 w + s.timebase.ticks < _
    omega)
  have hab : Moves a.timebase b.timebase (argument64 w) a.timebase.fraction :=
    hb ▸ timeStepOwner_moves hpos hrange (by rw [hsa.integer]; omega)
  rw [Timebase.ticks, hsum] at htu
  exact hst.comm htu hsa hab

/-- Settles O14. -/
theorem timeStepMovesTheInteger : Obligations.TimeStepMovesTheInteger := by
  refine ⟨fun s t u a b w hissues hpos hrange hroom hstep hadvance hadvance' hstep' htrim =>
    step_advance_comm hissues hpos hrange hroom hstep hadvance hadvance' hstep' htrim, fun s w hissues => ?_⟩
  refine ⟨fun hout => live_refused_of_issues hissues (if_pos hout), fun hpos hrange htop =>
    live_refused_of_issues hissues ?_, fun hpos hrange htop =>
    ⟨(s.lines.overtaken (s.timebase.integer.toNat + argument64 w)).gens, fun n => ?_, ?_⟩⟩
  · have hin : ¬ (wideArgument w = 0 ∨ Config.maxStep < wideArgument w) := by
      have hd : wideArgument w = argument64 w := rfl
      have hmax : Config.maxStep = 2 ^ 40 - 1 := rfl
      omega
    exact (if_neg hin).trans (if_pos htop)
  · have hgen : (s.lines.overtaken (s.timebase.integer.toNat + argument64 w)).gens[n]
        = s.lines.gens[n].overtaken (s.timebase.integer.toNat + argument64 w) := by
      simp [LineUnit.overtaken]
    refine ⟨fun hkept => by rw [hgen, overtaken_of_not_passed hkept], fun hrun hpassed hperiod => ?_⟩
    obtain ⟨hgrid, hle, hleast⟩ := gridFrom_least (start := s.lines.gens[n].start.toNat)
      (x := s.timebase.integer.toNat + argument64 w) (Nat.lt_of_lt_of_le (by decide) hperiod)
    refine ⟨_, hgen.trans (if_pos ⟨hrun, hpassed⟩), hgrid, hle, fun M hM hMle => ?_⟩
    obtain ⟨j, rfl⟩ := hM
    exact hleast j hMle
  · have howner := timeStepOwner_of_accepted hpos hrange rfl htop
    refine (live_takeCommand_of_issues hissues (timeStepOwner_port w s)).trans ?_
    rw [howner, timeAnswer_ofNat htop]
    refine congrArg Host.Outcome.next ?_
    have hmoved := step_moved (s := s) (Nat.le_add_right _ (argument64 w)) htop
    exact congrArg (fun m : State => { m with
      lines := s.lines.overtaken (s.timebase.integer.toNat + argument64 w)
      port := posted s .timeStep .ok (BitVec.ofNat 32 (s.timebase.integer.toNat + argument64 w))
        (BitVec.ofNat 32 ((s.timebase.integer.toNat + argument64 w) / 2 ^ 32)) }) hmoved

end Sys2Proof.Machine
end

section
/-! PROOFS. Validation (R18 to R30; O19): the checks in order, and what passing each of them says of the words. -/

namespace Sys2Proof.Machine

/-! ### Codes -/

/-- The code of a kind (R18). -/
def Kind.number : Kind → Nat
  | .set => 1
  | .clear => 2
  | .toggle => 3
  | .pulse => 4
  | .patternLoad => 5
  | .patternStart => 6
  | .patternStop => 7
  | .mark => 8

theorem kindOfCode_eq_some {c : BitVec 8} {k : Kind} (h : Kind.ofCode c = some k) : c.toNat = k.number := by
  unfold Kind.ofCode at h
  split at h
  case h_9 => cases h
  all_goals
    next hc =>
    obtain rfl := Option.some.inj h
    exact hc

theorem kindOfCode_eq_none {c : BitVec 8} (h : Kind.ofCode c = none) : c.toNat = 0 ∨ 8 < c.toNat := by
  by_contra hrange
  obtain hc | hc | hc | hc | hc | hc | hc | hc : c.toNat = 1 ∨ c.toNat = 2 ∨ c.toNat = 3 ∨ c.toNat = 4
      ∨ c.toNat = 5 ∨ c.toNat = 6 ∨ c.toNat = 7 ∨ c.toNat = 8 := by omega
  all_goals simp [Kind.ofCode, hc] at h

theorem number_range (k : Kind) : 1 ≤ k.number ∧ k.number ≤ 8 := by
  cases k <;> decide

theorem number_eq_mark {k : Kind} : k.number = 8 ↔ k = .mark := by
  cases k <;> decide

theorem number_eq_pulse {k : Kind} : k.number = 4 ↔ k = .pulse := by
  cases k <;> decide

theorem reportOfCode_eq_none {c : BitVec 2} : ReportOption.ofCode c = Option.none ↔ c.toNat = 3 := by
  obtain hc | hc | hc | hc : c.toNat = 0 ∨ c.toNat = 1 ∨ c.toNat = 2 ∨ c.toNat = 3 := by omega
  all_goals simp [ReportOption.ofCode, hc]

theorem reportOfCode_names {w : Words8} {r : ReportOption}
    (h : ReportOption.ofCode (w[0].extractLsb' 26 2) = some r) : NamesReport w r := by
  unfold ReportOption.ofCode at h
  simp only [NamesReport]
  split at h
  case h_4 => cases h
  all_goals
    next hn =>
    obtain rfl := Option.some.inj h
    rw [hn]
    decide

/-! ### The action named -/

/-- A used parameter of the kind is out of range (R25). -/
def BadAction (n : Nat) (a b : Word) : Prop :=
  (n = 4 ∧ (a.toNat = 0 ∨ 2 ^ 24 - 1 < a.toNat))
    ∨ (n = 5 ∧ (a.toNat < 2 ∨ 2 ^ 24 < a.toNat ∨ a.toNat < b.toNat))
    ∨ (n = 7 ∧ (1 < a.toNat ∨ 1 < b.toNat))

theorem kindAction_eq_none {k : Kind} {a b : Word} : k.action a b = none ↔ BadAction k.number a b := by
  have hwidth : Config.maxWidth = 2 ^ 24 - 1 := rfl
  have hperiod : Config.maxPeriod = 2 ^ 24 := rfl
  cases k <;> simp [Kind.action, BadAction, Kind.number, hwidth, hperiod] <;> omega

/-- A parameter in range keeps its number in its field (R25). -/
theorem toNat_parameter {a : Word} {n : Nat} (h : a.toNat < 2 ^ n) : (a.setWidth n).toNat = a.toNat := by
  rw [BitVec.toNat_setWidth, Nat.mod_eq_of_lt h]

/-- The action of a kind is the one that the words name (R18, R25). -/
theorem kindAction_names {w : Words8} {k : Kind} {a : Action} (hk : kindNumber w = k.number)
    (h : k.action w[4] w[5] = some a) : NamesAction w a := by
  unfold NamesAction
  rw [hk]
  have hzero : w[4] = 0 ↔ w[4].toNat = 0 := BitVec.toNat_eq
  have hone : w[5] = 1 ↔ w[5].toNat = 1 := BitVec.toNat_eq
  cases k <;> simp only [Kind.action] at h
  case pulse =>
    split at h
    · next hr =>
      obtain rfl := Option.some.inj h
      have hmax : Config.maxWidth = 2 ^ 24 - 1 := rfl
      simp [Kind.number]
      omega
    · cases h
  case patternLoad =>
    split at h
    · next hr =>
      obtain rfl := Option.some.inj h
      have hmax : Config.maxPeriod = 2 ^ 24 := rfl
      simp [Kind.number]
      omega
    · cases h
  case patternStop =>
    split at h
    · obtain rfl := Option.some.inj h
      have hstop : (w[4] = 0) = (w[4].toNat = 0) := propext hzero
      have hfinal : (w[5] = 1) = (w[5].toNat = 1) := propext hone
      simp only [hstop, hfinal]
      simp [Kind.number]
    · cases h
  all_goals
    obtain rfl := Option.some.inj h
    simp [Kind.number]

theorem kindAction_isPulse {k : Kind} {a b : Word} {act : Action} (h : k.action a b = some act) :
    act.isPulse = decide (k.number = 4) := by
  cases k <;> simp only [Kind.action] at h
  case pulse | patternLoad | patternStop =>
    split at h
    · obtain rfl := Option.some.inj h
      rfl
    · cases h
  all_goals
    obtain rfl := Option.some.inj h
    rfl

theorem kindAction_repeatFits {w : Words8} {k : Kind} {a : Action} (hk : kindNumber w = k.number)
    (h : k.action w[4] w[5] = some a) : repeatFits a (Candidate.ofWords w).rep = true ↔ ¬ BadRepeat w := by
  unfold BadRepeat
  rw [hk]
  have hrep : (Candidate.ofWords w).rep = if w[0].getLsbD 28 then some (w[6], w[1].extractLsb' 16 16) else none := rfl
  have hzero : (w[6] = 0#32) = (w[6].toNat = 0) := propext BitVec.toNat_eq
  rw [hrep]
  split
  · next hpresent =>
    cases k <;> simp only [Kind.action] at h
    case pulse =>
      split at h
      · next hr =>
        obtain rfl := Option.some.inj h
        have hmax : Config.maxWidth = 2 ^ 24 - 1 := rfl
        have hwidth : (w[4].setWidth 24).toNat = w[4].toNat := toNat_parameter (by omega)
        simp [repeatFits, Kind.number, hpresent, hwidth, hzero]
      · cases h
    case patternLoad | patternStop =>
      split at h
      · obtain rfl := Option.some.inj h
        simp [repeatFits, Kind.number, hpresent, hzero]
      · cases h
    all_goals
      obtain rfl := Option.some.inj h
      simp [repeatFits, Kind.number, hpresent, hzero]
  · next habsent => exact iff_of_true rfl fun h => habsent h.1

/-! ### The checks in order -/

/-- Checks 1 to 3 of R29 pass: what the fields are. -/
structure Passes (w : Words8) (k : Kind) (f : CheckedFields) : Prop where
  kind : kindNumber w = k.number
  action : k.action w[4] w[5] = some f.action
  report : ReportOption.ofCode (w[0].extractLsb' 26 2) = some f.report
  lines : f.lines = if k = .mark then 0 else candidateLines w

theorem check_badKind {w : Words8} (h : ¬ GoodKind w) : (RawFields.ofWords w).check = .error .badKind := by
  have hnone : Kind.ofCode (RawFields.ofWords w).kindCode = none := by
    cases hk : Kind.ofCode (RawFields.ofWords w).kindCode with
    | none => rfl
    | some k =>
      have hnumber : kindNumber w = k.number := kindOfCode_eq_some hk
      refine absurd ?_ h
      rw [GoodKind, hnumber]
      exact number_range k
  simp only [RawFields.check, hnone]

theorem goodKind_some {w : Words8} (h : GoodKind w) :
    ∃ k, Kind.ofCode (RawFields.ofWords w).kindCode = some k ∧ kindNumber w = k.number := by
  cases hk : Kind.ofCode (RawFields.ofWords w).kindCode with
  | none =>
    have hrange : kindNumber w = 0 ∨ 8 < kindNumber w := kindOfCode_eq_none hk
    obtain ⟨hlo, hhi⟩ := h
    omega
  | some k => exact ⟨k, rfl, kindOfCode_eq_some hk⟩

theorem goodLines_iff {w : Words8} {k : Kind} (hk : kindNumber w = k.number) :
    ¬ GoodLines w ↔ k ≠ .mark ∧ (RawFields.ofWords w).lines = 0 := by
  have hlines : (RawFields.ofWords w).lines = candidateLines w := rfl
  rw [GoodLines, hk, number_eq_mark, hlines]
  simp

theorem check_noLines {w : Words8} (h1 : GoodKind w) (h2 : ¬ GoodLines w) :
    (RawFields.ofWords w).check = .error .noLines := by
  obtain ⟨k, hcode, hk⟩ := goodKind_some h1
  simp only [RawFields.check, hcode, if_pos ((goodLines_iff hk).mp h2)]

theorem badParameter_iff {w : Words8} {k : Kind} (hk : kindNumber w = k.number) :
    BadParameter w ↔ (w[0].extractLsb' 26 2).toNat = 3 ∨ BadAction k.number w[4] w[5] := by
  rw [BadParameter, hk]
  rfl

theorem check_badParam {w : Words8} (h1 : GoodKind w) (h2 : GoodLines w) (h3 : BadParameter w) :
    (RawFields.ofWords w).check = .error .badParam := by
  obtain ⟨k, hcode, hk⟩ := goodKind_some h1
  have hlines := mt (goodLines_iff hk).mpr (not_not.mpr h2)
  simp only [RawFields.check, hcode, if_neg hlines]
  cases hr : ReportOption.ofCode (RawFields.ofWords w).reportCode with
  | none => rfl
  | some r =>
    have hne : (w[0].extractLsb' 26 2).toNat ≠ 3 := fun h3' =>
      nomatch (reportOfCode_eq_none.mpr h3').symm.trans hr
    have hbad := ((badParameter_iff hk).mp h3).resolve_left hne
    have haction : k.action (RawFields.ofWords w).paramA (RawFields.ofWords w).paramB = none :=
      kindAction_eq_none.mpr hbad
    simp only [haction]

theorem check_passes {w : Words8} (h1 : GoodKind w) (h2 : GoodLines w) (h3 : ¬ BadParameter w) :
    ∃ k f, (RawFields.ofWords w).check = .ok f ∧ Passes w k f := by
  obtain ⟨k, hcode, hk⟩ := goodKind_some h1
  have hlines := mt (goodLines_iff hk).mpr (not_not.mpr h2)
  rw [badParameter_iff hk, not_or] at h3
  obtain ⟨r, hr⟩ := Option.ne_none_iff_exists'.mp (mt reportOfCode_eq_none.mp h3.1)
  obtain ⟨a, ha⟩ := Option.ne_none_iff_exists'.mp (mt kindAction_eq_none.mp h3.2)
  have hr' : ReportOption.ofCode (RawFields.ofWords w).reportCode = some r := hr
  have ha' : k.action (RawFields.ofWords w).paramA (RawFields.ofWords w).paramB = some a := ha
  refine ⟨k, { action := a, lines := if k = .mark then 0 else candidateLines w, report := r }, ?_,
    hk, ha, hr, rfl⟩
  simp only [RawFields.check, hcode, if_neg hlines, hr', ha']
  rfl

/-- The due or offset of a candidate is the number of its two words (R20). -/
theorem toNat_time_ofWords (w : Words8) : (Candidate.ofWords w).time.toNat = dueOrOffset w := by
  have hlo := w[2].isLt
  have htime : (Candidate.ofWords w).time = w[3].extractLsb' 0 24 ++ w[2] := rfl
  rw [htime, BitVec.toNat_append, ← Nat.shiftLeft_add_eq_or_of_lt hlo, Nat.shiftLeft_eq, BitVec.extractLsb'_toNat,
    Nat.shiftRight_zero]
  simp only [dueOrOffset]
  omega

/-- The due of a candidate claimed at `base` (R20). -/
theorem dueAt_ofWords (w : Words8) (base : Time) :
    (BadTime w base → (Candidate.ofWords w).dueAt base = none)
      ∧ (¬ BadTime w base → ∃ due : Time, (Candidate.ofWords w).dueAt base = some due
        ∧ due.toNat = if w[0].getLsbD 24 then base.toNat + dueOrOffset w else dueOrOffset w) := by
  have hrel : (Candidate.ofWords w).relative = w[0].getLsbD 24 := rfl
  unfold Candidate.dueAt dueAfter BadTime
  rw [hrel, toNat_time_ofWords]
  cases w[0].getLsbD 24 with
  | false => exact ⟨fun h => (nomatch h.1), fun _ => ⟨_, rfl, toNat_time_ofWords w⟩⟩
  | true =>
    refine ⟨fun h => if_neg (Nat.not_le.mpr h.2), fun h => ?_⟩
    have hle : base.toNat + dueOrOffset w ≤ Config.maxTime := Nat.not_lt.mp fun hlt => h ⟨rfl, hlt⟩
    exact ⟨_, if_pos hle, toNat_time hle⟩

/-- A candidate that passes checks 1 to 3: the other checks (R29). -/
theorem validate_of_passes {w : Words8} {k : Kind} {f : CheckedFields} {base : Time} {free : Nat} {serial : BitVec 32}
    (hcheck : (RawFields.ofWords w).check = .ok f) (h : Passes w k f) :
    (BadRepeat w → (Candidate.ofWords w).validate base free serial = .error .badRepeat)
      ∧ (¬ BadRepeat w → BadTime w base → (Candidate.ofWords w).validate base free serial = .error .badTime)
      ∧ (¬ BadRepeat w → ¬ BadTime w base → free < slotsFor w →
          (Candidate.ofWords w).validate base free serial = .error .tableFull)
      ∧ (¬ BadRepeat w → ¬ BadTime w base → slotsFor w ≤ free → ∃ due : Time,
          (Candidate.ofWords w).validate base free serial = .ok ((Candidate.ofWords w).entry f due serial)
            ∧ due.toNat = if w[0].getLsbD 24 then base.toNat + dueOrOffset w else dueOrOffset w) := by
  have hfields : (Candidate.ofWords w).fields.check = .ok f := hcheck
  have hrepeat := kindAction_repeatFits h.kind h.action
  have hslots : slotsNeeded f.action = slotsFor w := by
    simp only [slotsNeeded, kindAction_isPulse h.action, slotsFor, h.kind, decide_eq_true_eq]
  obtain ⟨hlate, hdue⟩ := dueAt_ofWords w base
  unfold Candidate.validate
  simp only [hfields, hslots]
  refine ⟨fun h4 => if_neg fun hfits => hrepeat.mp hfits h4, fun h4 h5 => ?_, fun h4 h5 h6 => ?_, fun h4 h5 h6 => ?_⟩
  · rw [if_pos (hrepeat.mpr h4), hlate h5]
  · obtain ⟨due, hdueAt, -⟩ := hdue h5
    simp only [if_pos (hrepeat.mpr h4), hdueAt]
    exact if_neg (Nat.not_le.mpr h6)
  · obtain ⟨due, hdueAt, hvalue⟩ := hdue h5
    refine ⟨due, ?_, hvalue⟩
    simp only [if_pos (hrepeat.mpr h4), hdueAt]
    exact if_pos h6

/-- The repeat of an entry is that of the words (R26). -/
theorem repeatOf_ofWords (w : Words8) :
    (repeatOf (Candidate.ofWords w).rep).isSome = w[0].getLsbD 28
      ∧ ∀ r ∈ repeatOf (Candidate.ofWords w).rep, r.interval = w[6] ∧ r.count = w[1].extractLsb' 16 16
        ∧ r.remaining = if r.count = 0 then none else some r.count := by
  have hrep : (Candidate.ofWords w).rep = if w[0].getLsbD 28 then some (w[6], w[1].extractLsb' 16 16) else none := rfl
  rw [hrep]
  cases w[0].getLsbD 28 with
  | false => exact ⟨rfl, nofun⟩
  | true =>
    refine ⟨rfl, fun r hr => ?_⟩
    obtain rfl := Option.some.inj hr
    exact ⟨rfl, rfl, rfl⟩

theorem validate_of_check_error {w : Words8} {r : ResultCode} (h : (RawFields.ofWords w).check = .error r)
    (base : Time) (free : Nat) (serial : BitVec 32) :
    (Candidate.ofWords w).validate base free serial = .error r := by
  have hfields : (Candidate.ofWords w).fields.check = .error r := h
  simp only [Candidate.validate, hfields]

/-- Settles O19: the six checks in order, and the entry that passes them. -/
theorem firstFailedCheckDecides : Obligations.FirstFailedCheckDecides := by
  intro w base free serial answer k kindOk linesOk
  refine ⟨fun h1 => validate_of_check_error (check_badKind h1) _ _ _,
    fun h1 h2 => validate_of_check_error (check_noLines h1 h2) _ _ _,
    fun h1 h2 h3 => validate_of_check_error (check_badParam h1 h2 h3) _ _ _, fun h1 h2 h3 h4 => ?_,
    fun h1 h2 h3 h4 h5 => ?_, fun h1 h2 h3 h4 h5 h6 => ?_, fun h1 h2 h3 h4 h5 h6 => ?_⟩
  all_goals
    obtain ⟨kind, f, hcheck, hpasses⟩ := check_passes h1 h2 h3
    obtain ⟨hrepeat, htime, hfull, hok⟩ := validate_of_passes (base := base) (free := free) (serial := serial) hcheck hpasses
  · exact hrepeat h4
  · exact htime h4 h5
  · exact hfull h4 h5 h6
  · obtain ⟨due, hanswer, hdue⟩ := hok h4 h5 h6
    obtain ⟨hrep, hrepeats⟩ := repeatOf_ofWords w
    refine ⟨_, hanswer, rfl, rfl, kindAction_names hpasses.kind hpasses.action, reportOfCode_names hpasses.report,
      ?_, hdue, ?_, rfl, hrep, hrepeats⟩
    · refine hpasses.lines.trans ?_
      simp only [k, hpasses.kind, number_eq_mark]
    · refine (kindAction_isPulse hpasses.action).trans ?_
      simp only [k, hpasses.kind]

end Sys2Proof.Machine
end

section
/-! PROOFS. The commands of the table controller (R27 to R57; O20 to O23), and the commands and the fault event of
the sequencer (R61 to R64, R80; O24, O25). -/

namespace Sys2Proof.Machine

/-! ### The table -/

/-- Settles O20. -/
theorem admitPlacesOrRefuses : Obligations.AdmitPlacesOrRefuses := by
  intro s w hissues answer
  have hvalidate : validateNow (Candidate.ofWords w) s = answer := rfl
  refine ⟨fun r hr => live_refused_of_issues hissues ?_, fun e he => ⟨(validateNow_ok (hvalidate.trans he)).2.2, ?_⟩⟩
  · simp only [admitOwner, hvalidate, hr]
  · refine live_taken_of_issues (t := admitEntry e s) (a := { code := .ok, value0 := e.serial, value1 := e.due.low })
      hissues ?_ rfl
    simp only [admitOwner, hvalidate, he]

/-- Settles O21, by induction on the table. -/
theorem insertionIsByDueThenOrder : Obligations.InsertionIsByDueThenOrder := by
  intro e es hsorted
  induction es with
  | nil => exact ⟨[], [], rfl, rfl, nofun, nofun⟩
  | cons x rest ih =>
    obtain ⟨hfirst, hrest⟩ := List.pairwise_cons.mp hsorted
    by_cases hle : x.due.toNat ≤ e.due.toNat
    · obtain ⟨before, after, hsplit, hinsert, hbefore, hafter⟩ := ih hrest
      refine ⟨x :: before, after, congrArg _ hsplit, ?_, fun y hy => ?_, hafter⟩
      · rw [insertEntry, if_pos hle, hinsert, List.cons_append]
      · obtain rfl | hy := List.mem_cons.mp hy
        · exact hle
        · exact hbefore y hy
    · refine ⟨[], x :: rest, rfl, if_neg hle, nofun, fun y hy => ?_⟩
      have hx : e.due.toNat < x.due.toNat := Nat.not_le.mp hle
      obtain rfl | hy := List.mem_cons.mp hy
      · exact hx
      · exact Nat.lt_of_lt_of_le hx (hfirst y hy)

/-- The occupancy-fall signal, as the statements write it (R38). -/
theorem signalFall_eq (before : List Entry) (s : State) :
    signalFall (occupancyOf before) s = { s with aring := afterFall s.aring before s.table.entries } := by
  unfold signalFall afterFall
  split <;> rfl

/-- The entries that go are those that are not kept (R50). -/
theorem length_sub_filter {α : Type} (p : α → Bool) (xs : List α) :
    xs.length - (xs.filter fun x => !p x).length = xs.countP p := by
  have hsplit := List.length_eq_countP_add_countP p (l := xs)
  rw [← List.countP_eq_length_filter]
  simp only [Bool.not_eq_true, Bool.decide_eq_false] at hsplit
  omega

/-- The reservations that go are those of the entries that go (R50). -/
theorem reservations_sub_filter (p : Entry → Bool) (es : List Entry) :
    reservationsOf es - reservationsOf (es.filter fun e => !p e) = es.countP fun e => p e && e.reserved := by
  have hsplit : reservationsOf es = (es.countP fun e => p e && e.reserved)
      + reservationsOf (es.filter fun e => !p e) := by
    unfold reservationsOf
    induction es with
    | nil => rfl
    | cons e es ih =>
      cases hp : p e <;> cases hr : e.reserved <;> simp [hp, hr, ih] <;> omega
  omega

/-- A claim that removes the entries with a property (R50, R54). -/
theorem removeEntries_eq {keep goes : Entry → Bool} (h : ∀ e, keep e = !goes e) (s : State) :
    removeEntries keep s =
      (let kept := s.table.entries.filter fun e => !goes e
      ({ s with
          table := { s.table with entries := kept }
          aring := afterFall s.aring s.table.entries kept },
        { code := .ok
          value0 := BitVec.ofNat 32 (s.table.entries.countP goes)
          value1 := BitVec.ofNat 32 (s.table.entries.countP fun e => goes e && e.reserved) })) := by
  obtain rfl : keep = fun e => !goes e := funext h
  simp only [removeEntries, signalFall_eq, length_sub_filter, reservations_sub_filter, countWord]
  rfl

/-- The earliest due of the entries found, 2^56-1 for none (R55). -/
theorem earliestDue_spec (es : List Entry) :
    (es = [] → earliestDue es = BitVec.allOnes 56) ∧ (es ≠ [] → ∃ e ∈ es, e.due = earliestDue es)
      ∧ ∀ e ∈ es, (earliestDue es).toNat ≤ e.due.toNat := by
  induction es with
  | nil => exact ⟨fun _ => rfl, fun h => absurd rfl h, nofun⟩
  | cons x rest ih =>
    obtain ⟨hempty, hsome, hleast⟩ := ih
    refine ⟨nofun, fun _ => ?_, fun e he => ?_⟩ <;> unfold earliestDue
    · split
      · exact ⟨x, List.mem_cons_self, rfl⟩
      · next hlt =>
        have hne : rest ≠ [] := fun hnil => hlt (by
          rw [hempty hnil]
          exact time_le_maxTime x.due)
        obtain ⟨e, he, hdue⟩ := hsome hne
        exact ⟨e, List.mem_cons_of_mem x he, hdue⟩
    · have hrest : ∀ e ∈ rest, (earliestDue rest).toNat ≤ e.due.toNat := hleast
      obtain rfl | he := List.mem_cons.mp he
      · split
        · exact Nat.le_refl _
        · next hlt => exact Nat.le_of_lt (Nat.not_le.mp hlt)
      · split
        · next hle => exact Nat.le_trans hle (hrest e he)
        · exact hrest e he

/-- Settles O22. -/
theorem tagCommandsActOnTheTable : Obligations.TagCommandsActOnTheTable := by
  refine ⟨fun s w hissues => ?_, fun s w hissues => ?_, fun s w hissues => ?_⟩
  · refine live_taken_of_issues (owner := cancelTagOwner) hissues (removeEntries_eq (fun e => ?_) s) rfl
    simp [Entry.isTrail, tagArgument, bne]
  · refine live_taken_of_issues (owner := flushOwner) hissues (removeEntries_eq (fun e => ?_) s) rfl
    simp [Entry.isTrail, bne]
  · obtain ⟨hempty, hsome, hleast⟩ :=
      earliestDue_spec (s.table.entries.filter fun e => e.tag == w[0].extractLsb' 0 16)
    exact ⟨_, hempty, hsome, hleast, live_taken_of_issues (owner := queryTagOwner) hissues rfl rfl⟩

/-- CANCEL_LINES passes over TRAIL and MARK (R52). -/
theorem keepsLines_eq (e : Entry) : e.keepsLines = !(e.action != .trail && e.action != .mark) := by
  simp [Entry.keepsLines, Entry.isTrail, bne]

/-- The entries after CANCEL_LINES, in one pass (R52). -/
theorem narrowed_eq (m : LineMask) (es : List Entry) :
    (es.filter fun e => !e.emptiedBy m).map (Entry.narrow m) = es.filterMap fun e =>
      if e.action != .trail && e.action != .mark then
        if e.lines &&& ~~~ m = 0 then none else some { e with lines := e.lines &&& ~~~ m }
      else some e := by
  rw [← List.filterMap_eq_filter, List.map_filterMap]
  refine List.filterMap_congr fun e _ => ?_
  simp only [Entry.emptiedBy, keepsLines_eq]
  split
  · next hvisited =>
    by_cases hempty : e.lines &&& ~~~ m = 0
    · simp only [Option.guard, hvisited, hempty, Bool.not_true, Bool.not_false, Bool.true_and, beq_self_eq_true,
        Bool.false_eq_true, if_false, if_true, Option.map_none]
    · simp only [Option.guard, hvisited, hempty, beq_eq_false_iff_ne.mpr hempty, Bool.not_true, Bool.not_false,
        Bool.true_and, if_true, Option.map_some, Entry.narrow, keepsLines_eq, Bool.false_eq_true, if_false]
  · next hkept =>
    simp only [Option.guard, Bool.eq_false_of_not_eq_true hkept, Bool.not_true, Bool.not_false, Bool.false_and,
      if_true, Option.map_some, Entry.narrow, keepsLines_eq]

/-- Settles O23. -/
theorem cancelLinesNarrowsOrRemoves : Obligations.CancelLinesNarrowsOrRemoves := by
  intro s w hissues m visited after
  refine ⟨fun hm => live_refused_of_issues (owner := cancelLinesOwner) hissues (if_pos hm), fun hm => ?_⟩
  have hvisited : ∀ e : Entry, (!e.keepsLines) = visited e := fun e => by rw [keepsLines_eq, Bool.not_not]
  have hentries : (s.table.entries.filter fun e => !e.emptiedBy m).map (Entry.narrow m) = after := narrowed_eq m _
  have hfallen := signalFall_eq s.table.entries (s.withEntries after)
  refine live_taken_of_issues (owner := cancelLinesOwner)
    (t := { s with
      table := { s.table with entries := after }
      aring := afterFall s.aring s.table.entries after })
    (a := { code := .ok
            value0 := BitVec.ofNat 32 (s.table.entries.countP fun e => visited e && e.lines &&& ~~~ m == 0)
            value1 := BitVec.ofNat 32 (s.table.entries.countP fun e =>
              visited e && e.lines &&& ~~~ m != 0 && e.lines &&& m != 0) })
    hissues ((if_neg hm).trans ?_) rfl
  simp only [← hvisited]
  refine Prod.ext (.trans ?_ hfallen) rfl
  exact congrArg (fun es => signalFall (occupancyOf s.table.entries) (s.withEntries es)) hentries

/-! ### The sequencer -/

/-- The sequencer stopped, as the statements write it (R64, R79). -/
theorem stopSequencer_eq (c : StopCause) (s : State) :
    stopSequencer c s =
      { s with
        seq := { s.seq with state := .stopped, stopCause := c }
        report := s.report.offer { time := s.timebase.integer, body := .seqStopped c }
        irq := (s.irq.setIf (s.report.notices.length ≥ 32) .noticeLoss).setIf True .seqStop } := by
  rw [stopSequencer, offer_eq]
  rfl

/-- SEQ_RUN and SEQ_SINGLE: their two checks, and the state entered (R61, R62). -/
theorem startSequencer_cases (entered : SeqState) (s : State) :
    (s.seq.state ≠ .stopped → startSequencer entered s = (s, .refusal .state))
      ∧ (s.seq.state = .stopped → s.lines.faultLatch = true → startSequencer entered s = (s, .refusal .faultActive))
      ∧ (s.seq.state = .stopped → s.lines.faultLatch = false →
          startSequencer entered s = ({ s with seq := { s.seq with state := entered } }, .done)) := by
  unfold startSequencer
  refine ⟨fun h => if_pos h, fun h hl => ?_, fun h hl => ?_⟩
  · rw [if_neg (not_not.mpr h), if_pos hl]
  · rw [if_neg (not_not.mpr h), if_neg (by rw [hl]; nofun)]

/-- Settles O24. -/
theorem sequencerCommandsChangeItsState : Obligations.SequencerCommandsChangeItsState := by
  refine ⟨fun s w c i entered hwhich hissues => ?_, fun s w hissues => ⟨fun hstopped => ?_, fun hrun => ?_⟩⟩
  · obtain ⟨hstate, hfault, henters⟩ := startSequencer_cases entered s
    obtain hwhich | hwhich := hwhich <;> obtain ⟨rfl, rfl, rfl⟩ := hwhich
    · exact ⟨fun h => live_refused_of_issues (owner := seqRunOwner) hissues (hstate h),
        fun h hl => live_refused_of_issues (owner := seqRunOwner) hissues (hfault h hl),
        fun h hl => live_taken_of_issues (owner := seqRunOwner) hissues (henters h hl) rfl⟩
    · exact ⟨fun h => live_refused_of_issues (owner := seqSingleOwner) hissues (hstate h),
        fun h hl => live_refused_of_issues (owner := seqSingleOwner) hissues (hfault h hl),
        fun h hl => live_taken_of_issues (owner := seqSingleOwner) hissues (henters h hl) rfl⟩
  · exact live_taken_of_issues (owner := seqStopOwner) (t := s) (a := .done) hissues
      (Prod.ext (if_pos hstopped) rfl) rfl
  · exact live_taken_of_issues (owner := seqStopOwner) (a := .done) hissues
      (Prod.ext ((if_neg hrun).trans (stopSequencer_eq .command s)) rfl) rfl

/-- Settles O25. -/
theorem faultReachesSequencerAndTable : Obligations.FaultReachesSequencerAndTable := by
  intro s hawake
  refine ⟨fun hevents hstopped => ?_, fun hevents hrun => ?_, fun hclaims => ?_⟩
  · refine (live_of_awake hawake).trans (congrArg _ ?_)
    simp only [seqFaultEvent, if_neg (Nat.ne_of_gt hevents), if_pos hstopped]
  · refine (live_of_awake hawake).trans (congrArg _ ?_)
    simp only [seqFaultEvent, if_neg (Nat.ne_of_gt hevents), if_neg hrun, stopSequencer_eq]
  · refine (live_of_awake hawake).trans (congrArg _ ?_)
    simp only [faultClaim, if_neg (Nat.ne_of_gt hclaims), signalFall_eq]
    rfl

end Sys2Proof.Machine
end

section
/-! PROOFS. The line unit line by line and generator by generator (R83 to R105; O32 to O36, O38, O39). -/

namespace Sys2Proof.Machine

variable {l : LineUnit} {m : LineMask}

/-! ### Line effects -/

/-- The static lines of a mask (R94). -/
theorem getLsbD_static (l : LineUnit) (m : LineMask) (n : Fin 16) :
    (m &&& ~~~ l.patternMask).getLsbD n = (m.getLsbD n && !l.gens[n].running) := by
  rw [BitVec.getLsbD_and, BitVec.getLsbD_not, getLsbD_patternMask]
  simp [n.isLt]

theorem getLsbD_hit (l : LineUnit) (m : LineMask) (n : Fin 16) :
    (m &&& l.patternMask).getLsbD n = (m.getLsbD n && l.gens[n].running) := by
  rw [BitVec.getLsbD_and, getLsbD_patternMask]

/-- A STATIC line of the mask takes its level; every other line keeps it (R94, R95). -/
theorem getLsbD_drive (l : LineUnit) (m v : LineMask) (n : Fin 16) :
    (l.drive m v).lines.level.getLsbD n =
      if m.getLsbD n && !l.gens[n].running then v.getLsbD n else l.level.getLsbD n := by
  rw [← getLsbD_static]
  exact getLsbD_writeLevels _ _ _ _

/-- Settles O32. -/
theorem staticKindsActLineByLine : Obligations.StaticKindsActLineByLine := by
  intro l m due now width n static after old
  have hdrive := fun v => getLsbD_drive l m v n
  have hset : after .set = (static || old) := by
    have hbool : ∀ x r o : Bool, (if x && !r then x else o) = (x && !r || o) := by decide
    exact (hdrive m).trans (hbool _ _ _)
  have hclear : after .clear = (!static && old) := by
    refine (hdrive 0).trans ?_
    change (if static then (0 : LineMask).getLsbD n else old) = _
    cases static <;> simp
  refine ⟨hset, hset, hclear, hclear, ?_, fun a ha => ?_, getLsbD_static l m n, rfl, rfl⟩
  · refine (hdrive _).trans ?_
    change (if static then (~~~ l.level).getLsbD n else old) = _
    cases static <;> simp [old]
  · simp only [List.mem_cons, List.not_mem_nil, or_false] at ha
    obtain rfl | rfl | rfl | rfl | rfl := ha <;> exact ⟨getLsbD_hit l m n, rfl, rfl⟩

/-- Settles O33. -/
theorem patternKindsActOnGenerators : Obligations.PatternKindsActOnGenerators := by
  intro l m due now p final n g after S P
  have hgens := fun f => onGens_getElem l m f n
  have hhit : (l.onGens (m &&& l.patternMask) Generator.stopped).gens[n] =
      if m.getLsbD n && g.running then g.stopped else g := by
    rw [onGens_getElem, getLsbD_hit]
  refine ⟨fun a ha => ?_, fun a ha => ?_, rfl, fun hm => ⟨fun hr => ?_, fun hr => ?_, ?_, ?_, ?_⟩, ?_, ?_⟩
  · simp only [List.mem_cons, List.not_mem_nil, or_false] at ha
    obtain rfl | rfl | rfl | rfl := ha
    · exact ⟨rfl, rfl, fun hm => (hgens _).trans (by rw [hm]; rfl)⟩
    · exact ⟨rfl, rfl, fun hm => (hgens _).trans (by rw [hm]; rfl)⟩
    · exact ⟨rfl, rfl, fun hm => hhit.trans (by rw [hm]; rfl)⟩
    · exact ⟨rfl, rfl, fun hm => (hgens _).trans (by rw [hm]; rfl)⟩
  · simp only [List.mem_cons, List.not_mem_nil, or_false] at ha
    obtain rfl | rfl | rfl := ha <;> exact ⟨rfl, rfl⟩
  · exact (hgens _).trans ((if_pos hm).trans (if_pos hr))
  · exact (hgens _).trans ((if_pos hm).trans (if_neg (by simp [g] at hr; simp [hr])))
  · exact (hgens _).trans (if_pos hm)
  · refine hhit.trans ?_
    rw [hm]
    rfl
  · exact (hgens _).trans (if_pos hm)
  · change (writeLevels l.level (m &&& l.patternMask) (if final then m &&& l.patternMask else 0)).getLsbD n = _
    rw [getLsbD_writeLevels, getLsbD_hit]
    split
    · next hstops =>
      cases final
      · exact BitVec.getLsbD_zero
      · exact (getLsbD_hit l m n).trans hstops
    · rfl
  · change (linesOf (m &&& l.patternMask)).map _ = _
    simp only [linesOf, getLsbD_hit]

/-! ### Period starts and the fault -/

/-- An operation on the generator of one line. -/
theorem onGens_lineBit (l : LineUnit) (n : Fin 16) (f : Generator → Generator) :
    l.onGens (lineBit n) f = { l with gens := l.gens.set n (f l.gens[n]) } := by
  have hgens : (l.onGens (lineBit n) f).gens = l.gens.set n (f l.gens[n]) := by
    refine Vector.ext fun i hi => ?_
    have hi' := onGens_getElem l (lineBit n) f ⟨i, hi⟩
    rw [getLsbD_lineBit] at hi'
    refine hi'.trans ?_
    by_cases hn : i = n.val
    · subst hn
      simp
    · simp [hn, Ne.symm hn]
  exact congrArg (fun gens => { l with gens := gens }) hgens

theorem getLsbD_setLine (level : LineMask) (n k : Fin 16) (b : Bool) :
    (setLine level n b).getLsbD k = if k = n then b else level.getLsbD k := by
  have hline : (lineBit n).getLsbD k = decide (k = n) := by
    rw [getLsbD_lineBit]
    exact decide_eq_decide.mpr Fin.ext_iff.symm
  have hmask : (~~~ lineBit n).getLsbD k = !decide (k = n) := by
    rw [BitVec.getLsbD_not, hline, decide_eq_true k.isLt, Bool.true_and]
  cases b
  · simp only [setLine, Bool.false_eq_true, if_false, BitVec.getLsbD_and, hmask]
    by_cases hk : k = n <;> simp [hk]
  · simp only [setLine, if_true, BitVec.getLsbD_or, hline]
    by_cases hk : k = n <;> simp [hk]

/-- Settles O34. -/
theorem periodStartResolvesStopThenReload : Obligations.PeriodStartResolvesStopThenReload := by
  intro s n hawake g reached withGen stopped reloaded
  have hexec : ∀ {t}, periodStart n s = t → exec (.periodStartEvent n) s = .next t := fun h =>
    (live_of_awake hawake).trans (congrArg _ h)
  refine ⟨fun hnot => hexec (if_neg hnot), fun hreached final hstop =>
    ⟨setLine s.lines.level n final, fun k => getLsbD_setLine _ n k final, hexec ?_⟩,
    fun hreached hstop hreload => hexec ?_, fun hreached hstop hreload => hexec ?_⟩
  all_goals
    have hreached' : s.lines.gens[n].running = true ∧ s.lines.gens[n].nextStart ≤ s.timebase.integer.toNat := hreached
    have hstop' : s.lines.gens[n].pendingStop = _ := hstop
    simp only [periodStart, if_pos hreached', hstop']
  · rw [boundaryStop, offer_eq, onGens_lineBit]
    rfl
  · have hbegun : s.lines.gens[n].beginPeriod = reloaded := if_pos hreload
    rw [onGens_lineBit, hbegun]
  · have hbegun : s.lines.gens[n].beginPeriod = { g with nextStart := g.nextStart + g.active.period.toNat } :=
      if_neg (by rw [show s.lines.gens[n].reloadPending = false from hreload]; nofun)
    rw [onGens_lineBit, hbegun]

/-- Every running generator stopped (R89, R96). -/
theorem onGens_patternMask (l : LineUnit) (f : Generator → Generator) :
    (l.onGens l.patternMask f).gens = l.gens.map fun g => if g.running then f g else g := by
  refine Vector.ext fun i hi => ?_
  have hi' := onGens_getElem l l.patternMask f ⟨i, hi⟩
  rw [getLsbD_patternMask] at hi'
  rw [Vector.getElem_map]
  exact hi'

/-- Settles O35. -/
theorem faultIsLatchedOnce : Obligations.FaultIsLatchedOnce := by
  intro s hawake
  have hexec : ∀ i ∈ [Instr.faultLatch, .faultNSeenChange true], exec i s = .next (sampleFaultN true s) := by
    simp only [List.mem_cons, List.not_mem_nil, or_false, forall_eq_or_imp, forall_eq]
    exact ⟨live_of_awake hawake, live_of_awake hawake⟩
  refine ⟨fun henable hlatch i hi => (hexec i hi).trans (congrArg _ ?_),
    fun hnot i hi => (hexec i hi).trans (congrArg _ ?_), live_of_awake hawake⟩
  · have hgens := onGens_patternMask { s.lines with faultSeen := true } Generator.stopped
    have hlatched : LineUnit.latchFault { s.lines with faultSeen := true } =
        { s.lines with
          level := s.lines.safe ^^^ s.lines.polarity
          gateOpen := false, faultLatch := true, faultSeen := true
          gens := s.lines.gens.map fun g => if g.running then g.stopped else g
          faultEvents := s.lines.faultEvents + 1
          faultClaims := s.lines.faultClaims + 1 } :=
      congrArg (fun gens : Vector Generator 16 =>
        { s.lines with
          level := s.lines.safe ^^^ s.lines.polarity
          gateOpen := false, faultLatch := true, faultSeen := true, gens := gens
          faultEvents := s.lines.faultEvents + 1
          faultClaims := s.lines.faultClaims + 1 }) hgens
    refine (if_pos ⟨rfl, henable, by rw [hlatch]; nofun⟩).trans ?_
    rw [hlatched]
    rfl
  · refine if_neg fun ⟨_, hon, hclear⟩ => ?_
    obtain hoff | hset := hnot
    · exact nomatch hoff.symm.trans hon
    · exact hclear hset

/-! ### Commands, pins and settings -/

/-- Settles O36. -/
theorem gateOpensAndFaultClears : Obligations.GateOpensAndFaultClears := by
  refine ⟨fun s w hissues => ⟨fun hfault => ?_, fun hlatch hseen => ?_⟩,
    fun s w hissues => ⟨fun hseen => ?_, fun hseen => ?_⟩⟩
  · exact live_refused_of_issues (owner := gateOpenOwner) hissues (if_pos hfault)
  · exact live_taken_of_issues (owner := gateOpenOwner) hissues
      (if_neg (not_or.mpr ⟨by rw [hlatch]; nofun, hseen⟩)) rfl
  · exact live_refused_of_issues (owner := faultClearOwner) hissues (if_pos hseen)
  · exact live_taken_of_issues (owner := faultClearOwner) hissues (if_neg (by rw [hseen]; nofun)) rfl

theorem getLsbD_maskWord (m : LineMask) (n : Fin 16) : (maskWord m).getLsbD n = m.getLsbD n := by
  rw [maskWord, BitVec.getLsbD_setWidth]
  simp [Nat.lt_of_lt_of_le n.isLt (by decide : 16 ≤ 32)]

theorem toNat_maskWord_lt (m : LineMask) : (maskWord m).toNat < 2 ^ 16 := by
  have hm := m.isLt
  rw [maskWord, BitVec.toNat_setWidth, Nat.mod_eq_of_lt (by omega)]
  exact hm

/-- Settles O38. -/
theorem lineWriteSetsStaticLines : Obligations.LineWriteSetsStaticLines := by
  intro s w hissues m v
  refine ⟨fun hm => live_refused_of_issues (owner := lineWriteOwner) hissues (if_pos hm), fun hm => ?_⟩
  refine ⟨_, live_taken_of_issues (owner := lineWriteOwner) hissues (if_neg hm) rfl, fun n => ⟨?_, ?_, ?_⟩, rfl,
    toNat_maskWord_lt _, toNat_maskWord_lt _⟩
  · exact getLsbD_drive s.lines m v n
  · exact (getLsbD_maskWord _ n).trans (getLsbD_hit s.lines m n)
  · exact getLsbD_maskWord _ n

/-- Settles O39. -/
theorem pinsFollowGateLevelAndPolarity : Obligations.PinsFollowGateLevelAndPolarity := by
  refine ⟨fun s n => ⟨?_, ?_⟩, fun s v hawake => ⟨live_of_awake hawake, live_of_awake hawake, live_of_awake hawake⟩⟩
  · have hpattern : (BitVec.ofFnLE fun n : Fin 16 => s.lines.gens[n].running
        && s.lines.gens[n].levelAt s.timebase.integer).getLsbD n
        = (s.lines.gens[n].running && s.lines.gens[n].levelAt s.timebase.integer) := by simp
    simp only [State.levels, LineUnit.levels, BitVec.getLsbD_or, getLsbD_static, hpattern]
    have hbool : ∀ x r p : Bool, (x && !r || (r && p)) = if r then p else x := by decide
    exact hbool _ _ _
  · unfold State.pins
    split
    · exact BitVec.getLsbD_zero
    · split
      · exact BitVec.getLsbD_xor
      · rfl

end Sys2Proof.Machine
end

section
/-! PROOFS. The capture unit and the response unit (R109 to R127; O40, O42 to O44). -/

namespace Sys2Proof.Machine

/-! ### Edges -/

/-- Two changes of one input line are one. -/
theorem onInput_onInput (n : Fin 8) (f g : InputLine → InputLine) (s : State) :
    onInput n f (onInput n g s) = onInput n (fun l => f (g l)) s := by
  have hsame := onInput_getElem_same n g s
  simp only [onInput] at hsame ⊢
  rw [hsame, Vector.set_set]

/-- The edge select selects the edge, or both (R112). -/
theorem examines_iff {l : InputLine} {e : Edge} :
    l.examines e = true ↔ l.enable = true ∧ (l.select = .both ∨ (l.select = .rise ∧ e = .rise)
      ∨ (l.select = .fall ∧ e = .fall)) := by
  rw [InputLine.examines, Bool.and_eq_true]
  refine and_congr_right fun _ => ?_
  cases l.select <;> cases e <;> simp [EdgeSelect.selects]

/-- The holdoff window of the last accepted timestamp (R113). -/
theorem suppresses_iff {l : InputLine} {now : Time} :
    l.suppresses now = true ↔ ∃ last, l.lastAccepted = some last ∧ last.toNat ≤ now.toNat
      ∧ now.toNat - last.toNat < l.holdoff.toNat := by
  unfold InputLine.suppresses
  cases l.lastAccepted with
  | none => simp
  | some last => simp

theorem edgeLevel_eq (e : Edge) : edgeLevel e = decide (e = .rise) := by
  cases e <;> rfl

/-- What a trigger does to the response unit: nothing unless the template is ARMED (R124). -/
theorem triggerTemplate_of_idle {s : State} {n : Fin 8} (x : Time)
    (h : s.response.templates[n].state ≠ .armed) : triggerTemplate n x s = s := by
  simp only [triggerTemplate]
  split
  · next harmed => exact absurd harmed h
  all_goals rfl

/-- An ARMED template makes a claim; a ONE_SHOT one becomes CLAIMING (R124). -/
theorem triggerTemplate_of_armed {s : State} {n : Fin 8} (x : Time)
    (h : s.response.templates[n].state = .armed) :
    triggerTemplate n x s =
      { s with response :=
        { templates := s.response.templates.set n
            (if s.response.templates[n].mode = .oneShot then
              { s.response.templates[n] with state := .claiming } else s.response.templates[n])
          claims := s.response.claims ++
            [{ line := n, fields := s.response.templates[n].fields
               delay := s.response.templates[n].delay, stamp := x }] } } := by
  simp only [triggerTemplate, h]
  split
  · rfl
  · have hsame : s.response.templates.set n s.response.templates[n] = s.response.templates :=
      Vector.set_getElem_self _
    rw [hsame]

/-- Only the response unit knows of the trigger. -/
theorem triggerTemplate_eq (n : Fin 8) (x : Time) (s : State) :
    triggerTemplate n x s = { s with response := (triggerTemplate n x s).response } := by
  by_cases h : s.response.templates[n].state = .armed
  · rw [triggerTemplate_of_armed x h]
  · rw [triggerTemplate_of_idle x h]

theorem triggerTemplate_irq (n : Fin 8) (x : Time) (s : State) : (triggerTemplate n x s).irq = s.irq := by
  rw [triggerTemplate_eq]

/-- Only the capture unit and the causes know of a record offered. -/
theorem offerRecord_eq (r : CaptureRecord) (s : State) :
    offerRecord r s = { s with capture := (offerRecord r s).capture, irq := (offerRecord r s).irq } := by
  unfold offerRecord
  split <;> rfl

theorem satInc_eq_if {w n : Nat} (x : BitVec w) (hn : n = 2 ^ w - 1) :
    satInc x = if x.toNat = n then x else x + 1 := by
  rw [satInc_eq, hn]

/-- The courses of an edge: passed, suppressed or accepted (R109, R112, R113). -/
theorem inputEdge_of_edge {s : State} {n : Fin 8} {e : Edge}
    (h : s.capture.inputs[n].sync = some (!edgeLevel e)) :
    inputEdge n e s =
      if s.capture.inputs[n].examines e then
        if s.capture.inputs[n].suppresses s.timebase.integer then
          onInput n (fun l => InputLine.suppress { l with sync := some (edgeLevel e) }) s
        else acceptEdge n e (onInput n (fun l => { l with sync := some (edgeLevel e) }) s)
      else onInput n (fun l => { l with sync := some (edgeLevel e) }) s := by
  simp only [inputEdge, if_pos h, onInput_onInput]

/-- The state with an edge accepted on line `n` at the present time, its level seen (R115). -/
def lineAccepted (n : Fin 8) (b : Option Bool) (s : State) : State :=
  onInput n (fun l => { l with
    sync := b, seq := l.seq + 1, lastAccepted := some s.timebase.integer, supp := 0 }) s

/-- An accepted edge: the line, the record and the trigger (R115, R124). -/
theorem acceptEdge_of_seen (n : Fin 8) (e : Edge) (b : Option Bool) (s : State) :
    acceptEdge n e (onInput n (fun l => { l with sync := b }) s) =
      triggerTemplate n s.timebase.integer
        (offerRecord (s.capture.inputs[n].record n e s.timebase.integer) (lineAccepted n b s)) := by
  simp only [acceptEdge, onInput_getElem_same, onInput_onInput]
  rfl

theorem offerRecord_of_room {s : State} (r : CaptureRecord) (h : s.capture.log.length < Config.logSlots) :
    offerRecord r s = { s with capture := { s.capture with log := s.capture.log ++ [r] } } := if_pos h

/-- What an accepted edge leaves (R115 to R118, R124). -/
theorem accepted_course (n : Fin 8) (e : Edge) (b : Option Bool) (s : State) :
    let l := s.capture.inputs[n]
    let now := s.timebase.integer
    let template := s.response.templates[n]
    let accepted : InputLine := { l with sync := b, seq := l.seq + 1, lastAccepted := some now, supp := 0 }
    let t := triggerTemplate n now (offerRecord (l.record n e now) (lineAccepted n b s))
    (s.capture.log.length < 64 →
        t.capture = { inputs := s.capture.inputs.set n accepted, log := s.capture.log ++ [l.record n e now] }
          ∧ t.irq = s.irq)
      ∧ (64 ≤ s.capture.log.length →
        t.capture =
            { inputs := s.capture.inputs.set n
                { accepted with lost := if l.lost.toNat = 2 ^ 32 - 1 then l.lost else l.lost + 1 }
              log := s.capture.log }
          ∧ t.irq = { s.irq with causes := s.irq.causes ||| Cause.captureLoss.bit })
      ∧ (template.state ≠ .armed → t.response = s.response)
      ∧ (template.state = .armed →
        t.response.claims = s.response.claims ++
            [{ line := n, fields := template.fields, delay := template.delay, stamp := now }]
          ∧ t.response.templates = s.response.templates.set n
              (if template.mode = .oneShot then { template with state := .claiming } else template))
      ∧ t = { s with capture := t.capture, response := t.response, irq := t.irq } := by
  intro l now template accepted t
  have htrigger := triggerTemplate_eq n now (offerRecord (l.record n e now) (lineAccepted n b s))
  have hcapture : t.capture = (offerRecord (l.record n e now) (lineAccepted n b s)).capture :=
    triggerTemplate_capture n now _
  have hirq : t.irq = (offerRecord (l.record n e now) (lineAccepted n b s)).irq := triggerTemplate_irq n now _
  have hresponse : (offerRecord (l.record n e now) (lineAccepted n b s)).response = s.response :=
    offerRecord_response _ _
  refine ⟨fun hroom => ?_, fun hfull => ?_, fun hidle => ?_, fun harmed => ?_, ?_⟩
  · rw [hcapture, hirq, offerRecord_of_room (s := lineAccepted n b s) _ hroom]
    exact ⟨rfl, rfl⟩
  · have hlost := satInc_eq_if (n := 2 ^ 32 - 1) s.capture.inputs[n].lost rfl
    have hline : onInput n (fun l => { l with lost := satInc l.lost }) (lineAccepted n b s) = _ :=
      onInput_onInput n _ _ s
    rw [hcapture, hirq, offerRecord_of_full (s := lineAccepted n b s) _ hfull]
    refine ⟨?_, rfl⟩
    rw [raise_capture]
    refine (congrArg State.capture hline).trans ?_
    simp only [onInput, hlost]
    rfl
  · have hidle' : (offerRecord (l.record n e now) (lineAccepted n b s)).response.templates[n].state ≠ .armed := by
      rw [hresponse]
      exact hidle
    exact (congrArg State.response (triggerTemplate_of_idle now hidle')).trans hresponse
  · have harmed' : (offerRecord (l.record n e now) (lineAccepted n b s)).response.templates[n].state = .armed := by
      rw [hresponse]
      exact harmed
    have ht : t.response = _ := congrArg State.response (triggerTemplate_of_armed now harmed')
    rw [hresponse] at ht
    rw [ht]
    exact ⟨rfl, rfl⟩
  · have hoffer := congrArg (fun x : State => { x with response := t.response })
      (offerRecord_eq (l.record n e now) (lineAccepted n b s))
    rw [hcapture, hirq]
    exact htrigger.trans hoffer

/-- Settles O40. -/
theorem edgeIsAcceptedSuppressedOrPassed : Obligations.EdgeIsAcceptedSuppressedOrPassed := by
  intro s n e hawake l now rising examined held seen accepted suppressed inputs template hsync
  have hrising : edgeLevel e = rising := edgeLevel_eq e
  have hexamines : s.capture.inputs[n].examines e = true ↔ examined := examines_iff
  have hsuppresses : s.capture.inputs[n].suppresses s.timebase.integer = true ↔ held := suppresses_iff
  have hexec : exec (.inputEdge n e) s = .next _ :=
    (live_of_awake hawake).trans (congrArg _ (inputEdge_of_edge (by rw [hrising]; exact hsync)))
  rw [hrising, acceptEdge_of_seen] at hexec
  rw [hexec]
  refine ⟨fun hnot => ?_, fun hex hheld => ?_, fun hex hheld => ?_⟩
  · rw [if_neg (mt hexamines.mp hnot)]
    rfl
  · rw [if_pos (hexamines.mpr hex), if_pos (hsuppresses.mpr hheld)]
    have hsupp := satInc_eq_if (n := 65535) s.capture.inputs[n].supp (by decide)
    simp only [onInput, InputLine.suppress, hsupp]
    rfl
  · rw [if_pos (hexamines.mpr hex), if_neg (mt hsuppresses.mp hheld)]
    exact ⟨_, rfl, accepted_course n e (some rising) s⟩

/-- The edge encodings (R111). -/
theorem edgeSelect_ofCode (c : BitVec 2) :
    (c.toNat = 3 → EdgeSelect.ofCode c = none)
      ∧ ∀ x : EdgeSelect, x.code.toNat = c.toNat → EdgeSelect.ofCode c = some x := by
  refine ⟨fun h => by simp [EdgeSelect.ofCode, h], fun x hx => ?_⟩
  unfold EdgeSelect.ofCode
  rw [← hx]
  cases x <;> rfl

/-- Settles O42. -/
theorem inputLineSettingsAndFirstLevel : Obligations.InputLineSettingsAndFirstLevel := by
  intro s n v level hawake l code withInput
  obtain ⟨hinvalid, hvalid⟩ := edgeSelect_ofCode (v.extractLsb' 4 2)
  refine ⟨fun hcode => (live_of_awake hawake).trans (congrArg _ ?_),
    fun select hselect => (live_of_awake hawake).trans (congrArg _ ?_),
    fun hsync => (live_of_awake hawake).trans (congrArg _ (if_pos hsync))⟩
  · simp only [writeCapConfig, hinvalid hcode]
  · simp only [writeCapConfig, hvalid select hselect]
    rfl

/-! ### The response unit -/

theorem templateIndex_of_lt {n : Nat} (h : n < 8) : templateIndex n = some ⟨n, h⟩ := dif_pos h

theorem templateIndex_of_ge {n : Nat} (h : 7 < n) : templateIndex n = none := dif_neg (Nat.not_lt.mpr h)

/-- A template is outstanding where a claim names it (R120). -/
theorem outstanding_iff {u : ResponseUnit} {n : Fin 8} :
    u.outstanding n = true ↔ ∃ c ∈ u.claims, c.line.val = n.val := by
  simp [ResponseUnit.outstanding, Fin.ext_iff]

theorem disarm_eq (p : Template) :
    p.disarm = if p.state = .armed ∨ p.state = .claiming then { p with state := .disarmed } else p := by
  unfold Template.disarm
  split <;> next h => simp [h]

/-- Settles O43. -/
theorem responseCommandsChangeOneTemplate : Obligations.ResponseCommandsChangeOneTemplate := by
  refine ⟨fun s w hissues => ?_, fun s w hissues => ?_, fun s w hissues => ?_⟩
  · intro n refused
    refine ⟨fun hn => live_refused_of_issues hissues ?_, fun h => ?_⟩
    · have hindex : templateIndex (templateNumber w) = none := templateIndex_of_ge hn
      simp only [responseLoadOwner, hindex]
    have hindex : templateIndex (templateNumber w) = some ⟨n, h⟩ := templateIndex_of_lt h
    have herror : ∀ {r}, (RawFields.ofWords w).check = .error r → refused r := fun hr =>
      live_refused_of_issues hissues (by simp only [responseLoadOwner, hindex, hr])
    refine ⟨fun h1 => herror (check_badKind h1), fun h1 h2 => herror (check_noLines h1 h2),
      fun h1 h2 h3 => herror (check_badParam h1 h2 h3), fun h1 h2 h3 => ?_⟩
    obtain ⟨k, f, hcheck, hpasses⟩ := check_passes h1 h2 h3
    refine ⟨.ofChecked (RawFields.ofWords w) f, f.action, action_ofChecked hcheck,
      kindAction_names hpasses.kind hpasses.action, reportOfCode_names hpasses.report, ?_, rfl, rfl, ?_⟩
    · refine hpasses.lines.trans ?_
      simp only [hpasses.kind, number_eq_mark]
    · refine live_taken_of_issues (owner := responseLoadOwner) hissues
        (t := onTemplate ⟨n, h⟩ (fun _ => Template.loaded w f) s) (a := .done) ?_ rfl
      simp only [responseLoadOwner, hindex, hcheck]
  · refine ⟨fun hn => live_refused_of_issues hissues ?_, fun h => ?_⟩
    · simp only [responseArmOwner, templateIndex_of_ge hn]
    intro p outstanding
    have hout : s.response.outstanding ⟨w[0].toNat, h⟩ = true ↔ outstanding := outstanding_iff
    refine ⟨fun hrefused => live_refused_of_issues hissues ?_, fun hne hnone => ?_⟩
    · simp only [responseArmOwner, templateIndex_of_lt h]
      exact if_pos (hrefused.imp id hout.mpr)
    · refine live_taken_of_issues (owner := responseArmOwner) hissues
        (t := onTemplate ⟨w[0].toNat, h⟩ (fun p => { p with state := .armed }) s) (a := .done) ?_ rfl
      simp only [responseArmOwner, templateIndex_of_lt h]
      exact if_neg (not_or.mpr ⟨hne, mt hout.mp hnone⟩)
  · refine ⟨fun hn => live_refused_of_issues hissues ?_, fun h => ?_⟩
    · simp only [responseDisarmOwner, templateIndex_of_ge hn]
    · intro p
      refine (live_taken_of_issues (owner := responseDisarmOwner) hissues
        (t := onTemplate ⟨w[0].toNat, h⟩ Template.disarm s) (a := .done) ?_ rfl).trans ?_
      · simp only [responseDisarmOwner, templateIndex_of_lt h]
      · simp only [onTemplate, disarm_eq]
        rfl

/-- Checks 5 and 6 of R29 on a response claim whose fields name an action (R125). -/
theorem responseValidate_eq {c : ResponseClaim} {a : Action} (ha : c.fields.action = .ok a) (free : Nat)
    (serial : BitVec 32) :
    c.validate free serial =
      if c.stamp.toNat + c.delay.toNat ≤ 2 ^ 56 - 1 then
        if slotsNeeded a ≤ free then
          .ok { action := a, lines := c.fields.lines, due := BitVec.ofNat 56 (c.stamp.toNat + c.delay.toNat)
                tag := c.fields.tag, late := c.fields.late, report := c.fields.report, rep := none
                serial := serial, reserved := a.isPulse }
        else .error .tableFull
      else .error .badTime := by
  simp only [ResponseClaim.validate, ha, dueAfter]
  have hmax : Config.maxTime = 2 ^ 56 - 1 := rfl
  rw [hmax]
  by_cases hdue : c.stamp.toNat + c.delay.toNat ≤ 2 ^ 56 - 1
  · rw [if_pos hdue, if_pos hdue]
  · rw [if_neg hdue, if_neg hdue]

/-- Settles O44. -/
theorem responseClaimAdmitsOrIsLost : Obligations.ResponseClaimAdmitsOrIsLost := by
  intro s c rest a hawake hclaims ha due slots free p settled lost
  have hexec : exec .responseClaim s = .next (responseClaim s) := live_of_awake hawake
  have hlost : ∀ {r}, c.validate (freeSlotsOf s.table.entries) s.table.serialNext = .error r → lost r := fun hr => by
    refine hexec.trans (congrArg _ ?_)
    simp only [responseClaim, hclaims, hr, offer_eq]
    rfl
  refine ⟨fun hlate => hlost ?_, fun hdue hfree => hlost ?_, fun hdue hfree => hexec.trans (congrArg _ ?_)⟩
  · rw [responseValidate_eq ha, if_neg (Nat.not_le.mpr hlate)]
  · rw [responseValidate_eq ha, if_pos hdue]
    exact if_neg (Nat.not_le.mpr hfree)
  · have hvalid := responseValidate_eq ha (freeSlotsOf s.table.entries) s.table.serialNext
    have hvalid' := (hvalid.trans (if_pos hdue)).trans (if_pos hfree)
    simp only [responseClaim, hclaims, hvalid']
    rfl

end Sys2Proof.Machine
end

section
/-! PROOFS. The report unit (R137 to R152; O46 to O49). -/

namespace Sys2Proof.Machine

/-! ### The writer -/

/-- The writer's choice: there is a record, and the notices' turn is as R137 says. -/
theorem chooseSource_eq_some {notices : List Notice} {log : List CaptureRecord} {last src : Source} :
    chooseSource notices log last = some src ↔
      (notices ≠ [] ∨ log ≠ []) ∧ (src = .notice ↔ notices ≠ [] ∧ (log = [] ∨ last = .capture)) := by
  cases notices <;> cases log <;> cases last <;> cases src <;> simp [chooseSource]

theorem chooseSource_eq_none {notices : List Notice} {log : List CaptureRecord} {last : Source} :
    chooseSource notices log last = none ↔ notices = [] ∧ log = [] := by
  cases notices <;> cases log <;> simp [chooseSource]

theorem mayWrite_iff {s : State} : mayWrite s = true ↔ s.report.state = .running
    ∧ s.report.ring.disablePending = false ∧ s.bus.masterEnable = true ∧ s.report.inFlight = none := by
  simp [mayWrite, and_assoc]

/-- Settles O46. -/
theorem reportWriterStartsByItsRules : Obligations.ReportWriterStartsByItsRules := by
  intro s hawake may request
  have hexec : exec .reportWriteStart s = .next (reportWriteStart s) := live_of_awake hawake
  refine ⟨fun hnot => hexec.trans (congrArg _ ?_), fun hmay src data hsrc hnotice hcapture =>
    hexec.trans (congrArg _ ?_)⟩
  · unfold reportWriteStart
    split
    · rfl
    · next src hchosen =>
      refine if_neg fun hwrite => hnot ?_
      obtain ⟨hrunning, hpending, hmaster, hidle⟩ := mayWrite_iff.mp hwrite
      exact ⟨hrunning, hpending, hmaster, hidle, (chooseSource_eq_some.mp hchosen).1⟩
  · obtain ⟨hrunning, hpending, hmaster, hidle, hrecord⟩ := hmay
    have hchosen := chooseSource_eq_some.mpr ⟨hrecord, hsrc⟩
    have hwrite := mayWrite_iff.mpr ⟨hrunning, hpending, hmaster, hidle⟩
    have hdata : headRecord src s = data := by
      cases src with
      | notice =>
        obtain ⟨n, rest, hn⟩ := List.exists_cons_of_ne_nil (hsrc.mp rfl).1
        rw [hnotice n rest rfl hn]
        simp only [headRecord, hn]
      | capture =>
        have hlog : s.capture.log ≠ [] := fun hempty =>
          nomatch hsrc.mpr ⟨hrecord.resolve_right (not_not.mpr hempty), .inl hempty⟩
        obtain ⟨r, rest, hr⟩ := List.exists_cons_of_ne_nil hlog
        rw [hcapture r rest rfl hr]
        simp only [headRecord, hr]
    simp only [reportWriteStart, hchosen, if_pos hwrite, startWrite, hdata]
    rfl

/-! ### Completions -/

/-- The unit after the steps of a delivery, before the ring's state is evaluated (R134, R140, R148). -/
def ReportUnit.delivered (src : Source) (now : Time) (u : ReportUnit) : ReportUnit :=
  { u with
    notices := if src = .capture then u.notices
      else if u.noticeLoss = 0 then u.notices.tail
      else u.notices.tail ++ [{ time := now, body := .noticeLoss u.noticeLoss }]
    noticeLoss := if src = .capture then u.noticeLoss else 0
    ring := { u.ring with prod := u.ring.after u.ring.prod }
    lastSource := src
    inFlight := none
    count := if u.threshold ≤ u.count + 1 then 0 else u.count + 1
    waitStart := if u.count = 0 then now else u.waitStart }

/-- A delivered record counted, as one change of the report unit and the causes (R148, R149). -/
theorem countDelivered_eq (s : State) :
    countDelivered s =
      { s with
        report := { s.report with
          count := if s.report.threshold ≤ s.report.count + 1 then 0 else s.report.count + 1
          waitStart := if s.report.count = 0 then s.timebase.integer else s.report.waitStart }
        irq := s.irq.setIf (s.report.threshold ≤ s.report.count + 1) .report } := by
  by_cases hsignal : s.report.threshold ≤ s.report.count + 1
  · simp only [countDelivered, if_pos hsignal, InterruptUnit.setIf]
    rfl
  · simp only [countDelivered, if_neg hsignal, InterruptUnit.setIf]
    rfl

/-- The record removed, as one change of the report unit and the log (R117, R134). -/
theorem removeRecord_eq (src : Source) (s : State) :
    removeRecord src s =
      { s with
        report := { s.report with
          notices := if src = .capture then s.report.notices
            else if s.report.noticeLoss = 0 then s.report.notices.tail
            else s.report.notices.tail ++ [{ time := s.timebase.integer, body := .noticeLoss s.report.noticeLoss }]
          noticeLoss := if src = .capture then s.report.noticeLoss else 0 }
        capture := if src = .capture then { s.capture with log := s.capture.log.tail } else s.capture } := by
  cases src with
  | capture => rfl
  | notice =>
    by_cases hzero : s.report.noticeLoss = 0
    · simp only [removeRecord, onReport, ReportUnit.removeNotice, if_pos hzero, reduceCtorEq, if_false]
      rw [hzero]
    · simp only [removeRecord, onReport, ReportUnit.removeNotice, if_neg hzero, reduceCtorEq, if_false]

/-- The six steps of a delivery, as one change of the report unit, the log and the causes (R140). -/
theorem deliverRecord_eq (src : Source) (s : State) :
    deliverRecord src s =
      { s with
        report := (s.report.delivered src s.timebase.integer).evaluateIfOn.endWrite
        capture := if src = .capture then { s.capture with log := s.capture.log.tail } else s.capture
        irq := s.irq.setIf (s.report.threshold ≤ s.report.count + 1) .report } := by
  rw [deliverRecord, removeRecord_eq, countDelivered_eq]
  rfl

theorem evaluateIfOn_eq (u : ReportUnit) : u.evaluateIfOn = { u with state := u.evaluateIfOn.state } := by
  unfold ReportUnit.evaluateIfOn
  split <;> rfl

theorem endWrite_eq (u : ReportUnit) :
    u.endWrite = { u with
      state := if u.ring.disablePending then .disabled else u.state
      ring := { u.ring with disablePending := false } } := by
  unfold ReportUnit.endWrite
  split
  · rfl
  · next hpending =>
    have hring : { u.ring with disablePending := false } = u.ring := by
      rw [← Bool.eq_false_of_not_eq_true hpending]
    rw [hring]

/-- The state that the indices give (R140). -/
theorem evaluate_eq (u : ReportUnit) :
    u.evaluate = { u with state := if u.ring.after u.ring.prod = u.ring.cons then .full else .running } := by
  simp only [ReportUnit.evaluate, Ring.isFull, beq_iff_eq]

theorem evaluateIfOn_of_on {u : ReportUnit} (h : u.state = .running ∨ u.state = .full) :
    u.evaluateIfOn = u.evaluate := by
  refine if_pos ?_
  obtain h | h := h <;> rw [h] <;> rfl

theorem evaluateIfOn_of_off {u : ReportUnit} (h : u.state = .disabled ∨ u.state = .halted) :
    u.evaluateIfOn = u := by
  refine if_neg ?_
  obtain h | h := h <;> rw [h] <;> nofun

/-- A completion with no report burst on the bus (log entries 1 and 10). -/
theorem completion_without_burst {s : State} (hbus : s.bus.onBus ≠ some .report) {i : Instr}
    (hi : i ∈ [Instr.reportWriteDone, .reportWriteError]) : exec i s = .next (discardEmptiedWrite s) := by
  simp only [List.mem_cons, List.not_mem_nil, or_false] at hi
  obtain rfl | rfl := hi
  · exact congrArg Host.Outcome.next (if_neg hbus)
  · exact congrArg Host.Outcome.next (if_neg hbus)

/-- The completion of an abandoned write's burst (R152). -/
theorem completion_of_abandoned {s : State} (hbus : s.bus.onBus = some .report)
    (hab : s.report.ring.abandoned = true) {i : Instr}
    (hi : i ∈ [Instr.reportWriteDone, .reportWriteError]) :
    exec i s = .next (discardWrite (releaseReportSlot s)) := by
  simp only [List.mem_cons, List.not_mem_nil, or_false] at hi
  obtain rfl | rfl := hi
  · exact congrArg Host.Outcome.next ((if_pos hbus).trans (if_pos hab))
  · exact congrArg Host.Outcome.next ((if_pos hbus).trans (if_pos hab))

theorem reportWriteDone_of_flight {s : State} {src : Source} (hbus : s.bus.onBus = some .report)
    (hab : s.report.ring.abandoned = false) (hflight : s.report.inFlight = some src) :
    reportWriteDone s = deliverRecord src (releaseReportSlot s) := by
  simp only [reportWriteDone, if_pos hbus, hab, Bool.false_eq_true, if_false, hflight]

theorem reportWriteError_of_flight {s : State} {src : Source} (hbus : s.bus.onBus = some .report)
    (hab : s.report.ring.abandoned = false) (hflight : s.report.inFlight = some src) :
    reportWriteError s = failWrite (releaseReportSlot s) := by
  simp only [reportWriteError, if_pos hbus, hab, Bool.false_eq_true, if_false, hflight]

/-- A failed write carries out a pending disable (R145). -/
theorem failWrite_of_pending {s : State} (h : s.report.ring.disablePending = true) :
    failWrite (releaseReportSlot s) =
      { s with
        bus := { s.bus with reportSlot := none, onBus := none }
        report := { s.report with
          inFlight := none, state := .disabled, ring := { s.report.ring with disablePending := false } } } :=
  if_pos h

/-- A failed write halts the ring (R141). -/
theorem failWrite_of_kept {s : State} (h : s.report.ring.disablePending = false) :
    failWrite (releaseReportSlot s) =
      { s with
        bus := { s.bus with reportSlot := none, onBus := none }
        report := { s.report with inFlight := none, state := .halted }
        irq := { s.irq with causes := s.irq.causes ||| Cause.ringError.bit, haltReport := true } } := by
  have hkept : ¬ s.report.ring.disablePending = true := by rw [h]; nofun
  exact if_neg hkept

/-- Settles O47. -/
theorem reportWriteCompletes : Obligations.ReportWriteCompletes := by
  refine ⟨fun s hbus i hi => ⟨fun hab hslot => ?_, fun hkept => ?_⟩, fun s hbus => ?_⟩
  · exact (completion_without_burst hbus hi).trans (congrArg _ (if_pos ⟨hab, hslot⟩))
  · refine (completion_without_burst hbus hi).trans (congrArg _ (if_neg fun h => ?_))
    obtain hab | hslot := hkept
    · exact nomatch hab.symm.trans h.1
    · exact hslot h.2
  · intro bus u
    refine ⟨fun hab i hi => completion_of_abandoned hbus hab hi, fun src hab hflight => ⟨?_, fun hpending => ?_,
      fun hpending => ?_⟩⟩
    · have hexec : exec .reportWriteDone s = .next _ := congrArg Host.Outcome.next
        ((reportWriteDone_of_flight hbus hab hflight).trans (deliverRecord_eq src _))
      rw [evaluateIfOn_eq, endWrite_eq] at hexec
      refine ⟨_, hexec, ?_, ?_, ?_, rfl, rfl, rfl, rfl, rfl, rfl, rfl, rfl, fun hcount => if_pos hcount,
        fun hcount => if_neg (Nat.ne_of_gt hcount), fun hpending => if_pos hpending, fun hpending hon => ?_⟩
      · rfl
      · by_cases hsrc : src = .capture <;> simp only [hsrc, if_true, if_false] <;> rfl
      · by_cases hsrc : src = .capture <;> simp only [hsrc, if_true, if_false] <;> rfl
      · have hevaluated := (evaluateIfOn_of_on (u := (releaseReportSlot s).report.delivered src
          (releaseReportSlot s).timebase.integer) hon).trans (evaluate_eq _)
        have hkept : ¬ s.report.ring.disablePending = true := fun hset => nomatch hpending.symm.trans hset
        refine (if_neg hkept).trans ?_
        exact congrArg ReportUnit.state hevaluated
    · exact congrArg Host.Outcome.next
        ((reportWriteError_of_flight hbus hab hflight).trans (failWrite_of_pending hpending))
    · exact congrArg Host.Outcome.next
        ((reportWriteError_of_flight hbus hab hflight).trans (failWrite_of_kept hpending))

/-! ### Coalescing -/

/-- The wait has expired (R149; log entry 28). -/
theorem expired_iff {u : ReportUnit} {now : Time} :
    u.expired now = true ↔ 0 < u.count ∧ 0 < u.delay ∧
      (u.waitStart.toNat + u.delay ≤ now.toNat ∨ now.toNat < u.waitStart.toNat ∨ now.toNat = 2 ^ 56 - 1) := by
  have hmax : Config.maxTime = 2 ^ 56 - 1 := rfl
  have hnow := time_le_maxTime now
  simp only [ReportUnit.expired, Bool.and_eq_true, Bool.or_eq_true, decide_eq_true_eq, hmax] at hnow ⊢
  omega

/-- Settles O48. -/
theorem coalescingSignalsReport : Obligations.CoalescingSignalsReport := by
  intro s v hawake u now expires signalled threshold delay written
  have hwritten : (onReport (ReportUnit.setCoal v) s).report = written := rfl
  have hwrite : exec (.reportCoalWrite v) s = .next (writeReportCoal v s) := live_of_awake hawake
  have hexpires : written.expired s.timebase.integer = true ↔ expires delay := expired_iff
  refine ⟨fun h => (live_of_awake hawake).trans (congrArg _ (if_pos (expired_iff.mpr h))),
    fun h => (live_of_awake hawake).trans (congrArg _ (if_neg (mt expired_iff.mp h))),
    fun h => hwrite.trans (congrArg _ (if_pos h)),
    fun h hexp => hwrite.trans (congrArg _ ?_), fun h hexp => hwrite.trans (congrArg _ ?_)⟩
  · exact (if_neg (Nat.not_le.mpr h)).trans (if_pos (hexpires.mpr hexp))
  · exact (if_neg (Nat.not_le.mpr h)).trans (if_neg (mt hexpires.mp hexp))

/-! ### Registers -/

theorem turnOn_of_on {u : ReportUnit} {master : Bool} (h : u.state ≠ .disabled) : u.turnOn master = u := if_neg h

theorem turnOn_refused {u : ReportUnit} {master : Bool} (h : u.state = .disabled)
    (hmay : master = false ∨ u.ring.abandoned = true) : u.turnOn master = { u with ring := u.ring.refuse } :=
  (if_pos h).trans (if_pos hmay)

theorem turnOn_taken {u : ReportUnit} {master : Bool} (h : u.state = .disabled) (hmaster : master = true)
    (hab : u.ring.abandoned = false) :
    u.turnOn master = { u with ring := { u.ring with enable := true } }.evaluate :=
  (if_pos h).trans (if_neg (by simp [hmaster, hab]))

theorem turnOff_of_disabled {u : ReportUnit} (h : u.state = .disabled) :
    u.turnOff = { u with ring := { u.ring with enable := false } } := by
  simp only [ReportUnit.turnOff, h]

/-- The disable ends at once in HALTED and with no write in flight (R145). -/
theorem turnOff_ends {u : ReportUnit} (h : u.state = .halted ∨ (u.state ≠ .disabled ∧ u.inFlight = none)) :
    u.turnOff = { u with
      state := .disabled, ring := { u.ring with enable := false, disablePending := false } } := by
  unfold ReportUnit.turnOff
  split
  · next hoff => simp [hoff] at h
  · rfl
  all_goals
    next hon =>
    have hidle : u.inFlight = none := by simpa [hon] using h
    exact if_pos hidle

/-- The disable waits for a write in flight (R145). -/
theorem turnOff_waits {u : ReportUnit} (h : u.state = .running ∨ u.state = .full) (hflight : u.inFlight ≠ none) :
    u.turnOff = { u with ring := { u.ring with enable := false, disablePending := true } } := by
  unfold ReportUnit.turnOff
  split
  · next hoff => simp [hoff] at h
  · next hoff => simp [hoff] at h
  all_goals exact if_neg hflight

/-- Settles O49. -/
theorem reportRingRegistersObeyTheirChecks : Obligations.ReportRingRegistersObeyTheirChecks := by
  intro s v hawake u writable ignored stored valid cons
  have hlive : ∀ {f : State → State} {t}, f s = t → live s f = .next t := fun h =>
    (live_of_awake hawake).trans (congrArg _ h)
  have hwrites : writable → ∀ f, onReport (ReportUnit.writeRing f) s = stored (f u.ring) := fun h f =>
    congrArg (fun r => { s with report := r }) (if_pos h)
  have hignores : ¬ writable → ∀ f, onReport (ReportUnit.writeRing f) s = ignored := fun h f =>
    congrArg (fun r => { s with report := r }) (if_neg h)
  have hctrlOn : v.getLsbD 0 = true → ∀ {r}, u.turnOn s.bus.masterEnable = r →
      writeReportCtrl v s = { s with report := r } := fun h r hr => by
    simp only [writeReportCtrl, if_pos h, ← hr]
    rfl
  have hctrlOff : v.getLsbD 0 = false → ∀ {r}, u.turnOff = r →
      writeReportCtrl v s = { s with report := r } := fun h r hr => by
    simp only [writeReportCtrl, h, Bool.false_eq_true, if_false, ← hr]
    rfl
  refine ⟨fun hnot i hi => ?_, fun hw => ⟨hlive (hwrites hw _), hlive (hwrites hw _), fun hv => hlive ?_,
    fun hv => hlive ?_⟩, fun hoff => hlive ?_, fun hon => hlive ?_, hlive rfl,
    fun hbit => ⟨fun hne => hlive ?_, fun hoff hmay => hlive ?_, fun hoff hmaster hab => hlive ?_⟩,
    fun hbit => ⟨fun hoff => hlive ?_, fun hends => hlive ?_, fun src hon hflight => hlive ?_⟩⟩
  · simp only [List.mem_cons, List.not_mem_nil, or_false] at hi
    obtain rfl | rfl | rfl := hi <;> exact hlive (hignores hnot _)
  · exact (hwrites hw _).trans (congrArg stored (if_pos hv))
  · exact (hwrites hw _).trans (congrArg stored (if_neg hv))
  · have hunit : ({ u with ring := u.ring.setCons v } : ReportUnit).evaluateIfOn = _ :=
      evaluateIfOn_of_off (u := { u with ring := u.ring.setCons v }) hoff
    exact congrArg (fun r => { s with report := r }) hunit
  · have hunit : ({ u with ring := u.ring.setCons v } : ReportUnit).evaluateIfOn = _ :=
      (evaluateIfOn_of_on (u := { u with ring := u.ring.setCons v }) hon).trans (evaluate_eq _)
    exact congrArg (fun r => { s with report := r }) hunit
  · exact hctrlOn hbit (turnOn_of_on hne)
  · exact hctrlOn hbit (turnOn_refused hoff hmay)
  · exact hctrlOn hbit ((turnOn_taken hoff hmaster hab).trans (evaluate_eq _))
  · exact hctrlOff hbit (turnOff_of_disabled hoff)
  · exact hctrlOff hbit (turnOff_ends hends)
  · exact hctrlOff hbit (turnOff_waits hon (by rw [hflight]; nofun))

end Sys2Proof.Machine
end

section
/-! PROOFS. The admission ring engine (R153 to R170; O50 to O52). -/

namespace Sys2Proof.Machine

/-! ### The fetch -/

theorem mayFetch_iff {s : State} : mayFetch s = true ↔ s.aring.state = .running
    ∧ s.aring.ring.disablePending = false ∧ s.bus.masterEnable = true ∧ s.aring.fetch = .idle
    ∧ s.aring.buffer = none ∧ s.aring.ring.cons ≠ s.aring.ring.prod := by
  simp [mayFetch, Ring.published, and_assoc, eq_comm (a := s.aring.ring.prod)]

/-- The two completions of a fetch. -/
theorem fetchCompletion_cases {P : Instr → Prop} {data : Words8} (hdone : P (.fetchDone data)) (herror : P .fetchError)
    (i : Instr) (hi : i ∈ [Instr.fetchDone data, .fetchError]) : P i := by
  simp only [List.mem_cons, List.not_mem_nil, or_false] at hi
  obtain rfl | rfl := hi
  · exact hdone
  · exact herror

theorem fetchDone_of_burst {s : State} (data : Words8) (hbus : s.bus.onBus = some .admission)
    (hab : s.aring.ring.abandoned = false) (hburst : s.aring.fetch = .burst) :
    fetchDone data s = onAring (AdmissionRing.receive data) (releaseAdmissionSlot s) := by
  simp only [fetchDone, if_pos hbus, hab, Bool.false_eq_true, if_false, if_pos hburst]

theorem fetchError_of_burst {s : State} (hbus : s.bus.onBus = some .admission)
    (hab : s.aring.ring.abandoned = false) (hburst : s.aring.fetch = .burst) :
    fetchError s = failFetch (releaseAdmissionSlot s) := by
  simp only [fetchError, if_pos hbus, hab, Bool.false_eq_true, if_false, if_pos hburst]

theorem receive_of_pending {a : AdmissionRing} (data : Words8) (h : a.ring.disablePending = true) :
    a.receive data = a.disabled := if_pos h

theorem receive_of_kept {a : AdmissionRing} (data : Words8) (h : a.ring.disablePending = false) :
    a.receive data = { a with buffer := some data, fetch := .claim } := if_neg (by rw [h]; nofun)

theorem failFetch_of_pending {s : State} (h : s.aring.ring.disablePending = true) :
    failFetch s = onAring AdmissionRing.disabled s := if_pos h

/-- A failed fetch halts the engine (R164). -/
theorem failFetch_of_kept {s : State} (h : s.aring.ring.disablePending = false) :
    failFetch s =
      { s with
        aring := { s.aring with state := .halted, fetch := .idle }
        irq := { s.irq with causes := s.irq.causes ||| Cause.ringError.bit, haltAdmission := true } } :=
  if_neg (by rw [h]; nofun)

/-- Settles O50. -/
theorem descriptorFetchRunsItsCourse : Obligations.DescriptorFetchRunsItsCourse := by
  intro s data a may freed off
  refine ⟨fun hawake => ⟨fun hnot => ?_, fun hmay => ?_⟩,
    fun hbus => fetchCompletion_cases ⟨fun hab hslot => ?_, fun hkept => ?_⟩ ⟨fun hab hslot => ?_, fun hkept => ?_⟩,
    fun hbus hab => fetchCompletion_cases ?_ ?_,
    fun hbus hab hburst => ⟨fun hpending => fetchCompletion_cases ?_ ?_, fun hpending => ⟨?_, ?_⟩⟩⟩
  · exact (live_of_awake hawake).trans (congrArg _ (if_neg (mt mayFetch_iff.mp hnot)))
  · exact (live_of_awake hawake).trans (congrArg _ (if_pos (mayFetch_iff.mpr hmay)))
  · exact congrArg Host.Outcome.next ((if_neg hbus).trans (if_pos ⟨hab, hslot⟩))
  · refine congrArg Host.Outcome.next ((if_neg hbus).trans (if_neg fun h => ?_))
    exact hkept.elim (fun hab => nomatch hab.symm.trans h.1) fun hslot => hslot h.2
  · exact congrArg Host.Outcome.next ((if_neg hbus).trans (if_pos ⟨hab, hslot⟩))
  · refine congrArg Host.Outcome.next ((if_neg hbus).trans (if_neg fun h => ?_))
    exact hkept.elim (fun hab => nomatch hab.symm.trans h.1) fun hslot => hslot h.2
  · exact congrArg Host.Outcome.next ((if_pos hbus).trans (if_pos hab))
  · exact congrArg Host.Outcome.next ((if_pos hbus).trans (if_pos hab))
  · refine congrArg Host.Outcome.next ((fetchDone_of_burst data hbus hab hburst).trans ?_)
    exact congrArg (fun x => { s with bus := freed, aring := x }) (receive_of_pending data hpending)
  · exact congrArg Host.Outcome.next ((fetchError_of_burst hbus hab hburst).trans
      (failFetch_of_pending (s := releaseAdmissionSlot s) hpending))
  · refine congrArg Host.Outcome.next ((fetchDone_of_burst data hbus hab hburst).trans ?_)
    exact congrArg (fun x => { s with bus := freed, aring := x }) (receive_of_kept data hpending)
  · exact congrArg Host.Outcome.next ((fetchError_of_burst hbus hab hburst).trans
      (failFetch_of_kept (s := releaseAdmissionSlot s) hpending))

/-! ### Claims -/

/-- A rejection, as the statements write it (R159, R162). -/
theorem rejectDescriptor_eq (w : Words8) (r : ResultCode) (s : State) :
    rejectDescriptor w r s =
      { s with
        aring := s.aring.finish
        report := s.report.offer
          { time := s.timebase.integer
            body := .rejected (BitVec.ofNat 12 s.aring.ring.cons) r (descriptorTag w) }
        irq := (s.irq.setIf (s.report.notices.length ≥ 32) .noticeLoss).setIf True .admitReject } := by
  rw [rejectDescriptor, offer_eq]
  rfl

theorem claimDescriptor_of_ok {w : Words8} {s : State} {e : Entry} (hpublished : s.aring.ring.published = true)
    (h : validateNow (Candidate.ofWords w) s = .ok e) : claimDescriptor w s = admitDescriptor e s := by
  simp only [claimDescriptor, if_pos hpublished, h]

theorem claimDescriptor_of_full {w : Words8} {s : State} (hpublished : s.aring.ring.published = true)
    (h : validateNow (Candidate.ofWords w) s = .error .tableFull) : claimDescriptor w s = holdDescriptor s := by
  simp only [claimDescriptor, if_pos hpublished, h]

theorem claimDescriptor_of_error {w : Words8} {s : State} {r : ResultCode} (hpublished : s.aring.ring.published = true)
    (h : validateNow (Candidate.ofWords w) s = .error r) (hr : r ≠ .tableFull) :
    claimDescriptor w s = rejectDescriptor w r s := by
  simp only [claimDescriptor, if_pos hpublished, h]

theorem claimHeld_of_ok {w : Words8} {s : State} {e : Entry}
    (h : validateNow (Candidate.ofWords w) s = .ok e) : claimHeld w s = admitDescriptor e s := by
  simp only [claimHeld, h]

theorem claimHeld_of_full {w : Words8} {s : State} (h : validateNow (Candidate.ofWords w) s = .error .tableFull) :
    claimHeld w s = onAring (fun a => { a with retry := false }) s := by
  simp only [claimHeld, h]

theorem claimHeld_of_error {w : Words8} {s : State} {r : ResultCode}
    (h : validateNow (Candidate.ofWords w) s = .error r) (hr : r ≠ .tableFull) :
    claimHeld w s = rejectDescriptor w r s := by
  simp only [claimHeld, h]

/-- Settles O51. -/
theorem descriptorClaimHasOneOutcome : Obligations.DescriptorClaimHasOneOutcome := by
  intro s w hawake hbuffer a answer emptied finished admitted rejected
  have hanswer : validateNow (Candidate.ofWords w) s = answer := rfl
  refine ⟨fun hclaim => ?_, fun hheld hretry => ?_⟩
  · have hexec : exec .descriptorClaim s = .next (claimDescriptor w s) := by
      have hfetch : s.aring.fetch = .claim := hclaim
      refine (live_of_awake hawake).trans (congrArg _ ?_)
      simp only [descriptorClaim, hfetch, hbuffer]
    refine ⟨fun hequal => hexec.trans (congrArg _ (if_neg ?_)), fun hne => ?_⟩
    · simpa [Ring.published] using hequal
    · have hpublished : s.aring.ring.published = true := bne_iff_ne.mpr hne
      exact ⟨fun e he => hexec.trans (congrArg _ (claimDescriptor_of_ok hpublished (hanswer.trans he))),
        fun hfull => hexec.trans (congrArg _ (claimDescriptor_of_full hpublished (hanswer.trans hfull))),
        fun r hr hne => hexec.trans (congrArg _
          ((claimDescriptor_of_error hpublished (hanswer.trans hr) hne).trans (rejectDescriptor_eq w r s)))⟩
  · have hexec : exec .retryClaim s = .next (claimHeld w s) := by
      have hstate : s.aring.state = .held := hheld
      have hout : s.aring.retry = true := hretry
      refine (live_of_awake hawake).trans (congrArg _ ?_)
      simp only [retryClaim, hstate, hout, hbuffer]
    exact ⟨fun e he => hexec.trans (congrArg _ (claimHeld_of_ok (hanswer.trans he))),
      fun hfull => hexec.trans (congrArg _ (claimHeld_of_full (hanswer.trans hfull))),
      fun r hr hne => hexec.trans (congrArg _
        ((claimHeld_of_error (hanswer.trans hr) hne).trans (rejectDescriptor_eq w r s)))⟩

/-! ### Registers -/

theorem aringTurnOn_of_on {a : AdmissionRing} {master : Bool} (h : a.state ≠ .disabled) : a.turnOn master = a :=
  if_neg h

theorem aringTurnOn_refused {a : AdmissionRing} {master : Bool} (h : a.state = .disabled)
    (hmay : master = false ∨ a.ring.abandoned = true) : a.turnOn master = { a with ring := a.ring.refuse } :=
  (if_pos h).trans (if_pos hmay)

theorem aringTurnOn_taken {a : AdmissionRing} {master : Bool} (h : a.state = .disabled) (hmaster : master = true)
    (hab : a.ring.abandoned = false) :
    a.turnOn master = { a with state := .running, ring := { a.ring with enable := true } } :=
  (if_pos h).trans (if_neg (by simp [hmaster, hab]))

theorem aringTurnOff_of_disabled {a : AdmissionRing} (h : a.state = .disabled) :
    a.turnOff = { a with ring := { a.ring with enable := false } } := by
  simp only [AdmissionRing.turnOff, h]

/-- The disable waits for a burst (R166). -/
theorem aringTurnOff_waits {a : AdmissionRing} (h : a.state = .running) (hburst : a.fetch = .burst) :
    a.turnOff = { a with ring := { a.ring with enable := false, disablePending := true } } := by
  simp only [AdmissionRing.turnOff, h, hburst]

/-- The disable ends at once with no burst under way (R166; log entry 12). -/
theorem aringTurnOff_ends {a : AdmissionRing}
    (h : a.state = .held ∨ a.state = .halted ∨ (a.state = .running ∧ a.fetch ≠ .burst)) :
    a.turnOff = AdmissionRing.disabled { a with ring := { a.ring with enable := false } } := by
  obtain h | h | ⟨h, hburst⟩ := h
  · simp only [AdmissionRing.turnOff, h]
  · simp only [AdmissionRing.turnOff, h]
  · cases hfetch : a.fetch with
    | burst => exact absurd hfetch hburst
    | idle => simp only [AdmissionRing.turnOff, h, hfetch]
    | claim => simp only [AdmissionRing.turnOff, h, hfetch]

/-- A producer write that leaves the slot published, or with no descriptor held (R154). -/
theorem writeProd_stored {a : AdmissionRing} {v : Word}
    (h : a.state ≠ .held ∨ v.toNat % a.ring.size ≠ a.ring.cons) :
    a.writeProd v = { a with ring := a.ring.setProd v } := by
  refine if_neg fun hwithdrawn => ?_
  obtain hne | hne := h
  · exact hne hwithdrawn.1
  · exact hne (by simpa [Ring.published, Ring.setProd] using hwithdrawn.2)

/-- A producer write that withdraws the held descriptor (R163). -/
theorem writeProd_withdraws {a : AdmissionRing} {v : Word} (h : a.state = .held)
    (heq : v.toNat % a.ring.size = a.ring.cons) :
    a.writeProd v = AdmissionRing.emptied { a with ring := a.ring.setProd v } :=
  if_pos ⟨h, by simp [Ring.published, Ring.setProd, heq]⟩

/-- Settles O52. -/
theorem admissionRingRegistersObeyTheirChecks : Obligations.AdmissionRingRegistersObeyTheirChecks := by
  intro s v hawake a writable stored ignored valid index off
  have hlive : ∀ {f : State → State} {t}, f s = t → live s f = .next t := fun h =>
    (live_of_awake hawake).trans (congrArg _ h)
  have hunit : ∀ {x y : AdmissionRing}, x = y → ({ s with aring := x } : State) = { s with aring := y } :=
    fun h => h ▸ rfl
  have hwrites : writable → ∀ f, onAring (AdmissionRing.writeRing f) s = stored (f a.ring) := fun h f =>
    hunit (if_pos h)
  have hignores : ¬ writable → ∀ f, onAring (AdmissionRing.writeRing f) s = ignored := fun h f =>
    hunit (if_neg h)
  have hctrlOn : v.getLsbD 0 = true → ∀ {x}, a.turnOn s.bus.masterEnable = x →
      writeAringCtrl v s = { s with aring := x } := fun h x hx => by
    simp only [writeAringCtrl, if_pos h, ← hx]
    rfl
  have hctrlOff : v.getLsbD 0 = false → ∀ {x}, a.turnOff = x →
      writeAringCtrl v s = { s with aring := x } := fun h x hx => by
    simp only [writeAringCtrl, h, Bool.false_eq_true, if_false, ← hx]
    rfl
  refine ⟨fun hnot i hi => ?_, fun hw => ⟨hlive (hwrites hw _), hlive (hwrites hw _),
      fun hv => hlive ((hwrites hw _).trans (congrArg stored (if_pos hv))),
      fun hv => hlive ((hwrites hw _).trans (congrArg stored (if_neg hv)))⟩,
    fun hstored => hlive (hunit (writeProd_stored hstored)),
    fun hheld heq => hlive (hunit (writeProd_withdraws hheld heq)), hlive rfl,
    fun hbit => ⟨fun hne => hlive (hctrlOn hbit (aringTurnOn_of_on hne)),
      fun hoff hmay => hlive (hctrlOn hbit (aringTurnOn_refused hoff hmay)),
      fun hoff hmaster hab => hlive (hctrlOn hbit (aringTurnOn_taken hoff hmaster hab))⟩,
    fun hbit => ⟨fun hoff => hlive (hctrlOff hbit (aringTurnOff_of_disabled hoff)),
      fun hon hburst => hlive (hctrlOff hbit (aringTurnOff_waits hon hburst)),
      fun hends => hlive (hctrlOff hbit (aringTurnOff_ends hends))⟩⟩
  simp only [List.mem_cons, List.not_mem_nil, or_false] at hi
  obtain rfl | rfl | rfl := hi <;> exact hlive (hignores hnot _)

end Sys2Proof.Machine
end

section
/-! PROOFS. The command port (R172 to R176; O53). -/

namespace Sys2Proof.Machine

/-- A code that names a command is that command's code (Table 11-4). -/
theorem code_of_ofCode {code : BitVec 8} {k : Command} (h : Command.ofCode code = some k) : k.code = code := by
  unfold Command.ofCode at h
  split at h <;> cases h
  all_goals exact BitVec.eq_of_toNat_eq (Eq.symm ‹code.toNat = _›)

/-- A code that is no command's names none. -/
theorem ofCode_eq_none {code : BitVec 8} (h : ∀ k : Command, k.code ≠ code) : Command.ofCode code = none :=
  Option.eq_none_iff_forall_ne_some.mpr fun k hk => h k (code_of_ofCode hk)

/-- A refusal posted while the port is IDLE leaves the buffer (R175). -/
theorem post_refusal_of_idle {p : CommandPort} (h : p.buffer = none) (code : BitVec 8) (r : ResultCode) :
    p.post code (.refusal r) =
      { p with
        result := r, resultCommand := code, value0 := 0, value1 := 0, completions := p.completions + 1 } := by
  rw [CommandPort.post, ← h]
  rfl

theorem rowWrite_of_writesByOffset {i : Instr} {r : Reg} {v : Word} (h : WritesByOffset i r v) :
    rowWrite i = some (r, v) := by
  obtain ⟨offset, hr, rfl | rfl⟩ := h
  · rw [rowWrite, hr]
    rfl
  · rw [rowWrite, if_pos rfl, hr]
    rfl

/-- What a row that is a full-word register write does at an awake part. -/
theorem exec_of_writes_of_awake {i : Instr} {r : Reg} {v : Word} {s : State} (h : rowWrite i = some (r, v))
    (hawake : Awake s) : exec i s = .next (writeRegister r v s) :=
  (exec_of_writes h s).trans (live_of_awake hawake)

/-- A write of CMD, whatever its row's name. -/
theorem exec_cmd_of_writes {i : Instr} {v : Word} {s : State} (h : rowWrite i = some (.cmd, v))
    (hawake : Awake s) {p : CommandPort} (hp : s.port.writeCmd v = p) :
    exec i s = .next { s with port := p } := by
  subst hp
  exact exec_of_writes_of_awake h hawake

theorem rowWrite_of_cmd {i : Instr} {v : Word}
    (h : i = .commandIssue v ∨ i = .badCommand v ∨ i = .cmdOverrun v ∨ WritesByOffset i .cmd v) :
    rowWrite i = some (.cmd, v) := by
  obtain rfl | rfl | rfl | h := h
  · rfl
  · rfl
  · rfl
  · exact rowWrite_of_writesByOffset h

theorem rowWrite_of_cmdResult {i : Instr} {v : Word}
    (h : i = .cmdResultWrite v ∨ WritesByOffset i .cmdResult v) : rowWrite i = some (.cmdResult, v) := by
  obtain rfl | h := h
  · rfl
  · exact rowWrite_of_writesByOffset h

/-- Settles O53: every row of a CMD write is the one write, and the port's three answers are its cases. -/
theorem commandPortTakesOneCommandAtATime : Obligations.CommandPortTakesOneCommandAtATime := by
  refine ⟨⟨rfl, rfl, rfl, rfl, rfl⟩, fun s v hawake => ⟨fun i hi => ?_, fun i hi => ?_, fun c t hset h => ?_⟩⟩
  · have hwrite := rowWrite_of_cmd hi
    refine ⟨fun b hbusy => ?_, fun c hidle hcode => ?_, fun hidle hcode => ?_⟩
    · exact exec_cmd_of_writes hwrite hawake (portWriteCmd_of_busy v hbusy)
    · have hnamed : Command.ofCode (commandCode v) = some c :=
        (congrArg Command.ofCode hcode).symm.trans (ofCode_code c)
      exact exec_cmd_of_writes hwrite hawake (portWriteCmd_of_named hidle hnamed)
    · exact exec_cmd_of_writes hwrite hawake
        ((portWriteCmd_of_unnamed hidle (ofCode_eq_none hcode)).trans (post_refusal_of_idle hidle _ _))
  · exact exec_of_writes_of_awake (rowWrite_of_cmdResult hi) hawake
  · by_cases hclears : ClearsOverrun c
    · exact .inr hclears
    · exact .inl (exec_keeps_overrun hclears hset h)

end Sys2Proof.Machine
end

section
/-! PROOFS. The window's writes (R180, R181, R183; O55) and the master port's grants (R188; O57). -/

namespace Sys2Proof.Machine

/-! ### Offsets -/

/-- The word index of an offset does not depend on its low two bits (R180). -/
theorem wordIndex_mask (offset : BitVec 10) : (offset &&& 0x3FC#10).toNat / 4 = offset.toNat / 4 := by
  have hlt : offset.toNat / 4 < 2 ^ 8 := by omega
  calc (offset &&& 0x3FC#10).toNat / 4
      = (offset.toNat &&& 1020) >>> 2 := by rw [BitVec.toNat_and, Nat.shiftRight_eq_div_pow]; rfl
    _ = offset.toNat / 4 &&& (2 ^ 8 - 1) := by
        rw [Nat.shiftRight_and_distrib, Nat.shiftRight_eq_div_pow]
        rfl
    _ = offset.toNat / 4 := by rw [Nat.and_two_pow_sub_one_eq_mod, Nat.mod_eq_of_lt hlt]

theorem ofOffset_mask (offset : BitVec 10) : Reg.ofOffset (offset &&& 0x3FC#10) = Reg.ofOffset offset := by
  simp only [Reg.ofOffset, wordIndex_mask]

theorem ofOffset_stage (n : Fin 8) : Reg.ofOffset (BitVec.ofNat 10 (0x020 + 4 * n.val)) = some (.stage n) := by
  revert n
  decide

theorem writeOffset_mask (offset : BitVec 10) (v : Word) :
    writeOffset (offset &&& 0x3FC#10) v = writeOffset offset v := by
  funext s
  rw [writeOffset, writeOffset, ofOffset_mask]

theorem writeLanes_mask (offset : BitVec 10) (lanes : BitVec 4) (v : Word) :
    writeLanes (offset &&& 0x3FC#10) lanes v = writeLanes offset lanes v := by
  funext s
  rw [writeLanes, writeLanes, writeOffset_mask]

theorem exec_registerWrite_of_mapped {offset : BitVec 10} {r : Reg} (h : Reg.ofOffset offset = some r) (v : Word)
    {s : State} (hawake : Awake s) : exec (.registerWrite offset v) s = .next (writeRegister r v s) :=
  exec_of_writes_of_awake (rowWrite_of_writesByOffset ⟨offset, h, .inl rfl⟩) hawake

theorem exec_registerWrite_of_unmapped {offset : BitVec 10} (h : Reg.ofOffset offset = none) (v : Word)
    {s : State} (hawake : Awake s) : exec (.registerWrite offset v) s = .next s := by
  refine (live_of_awake hawake).trans ?_
  rw [writeOffset, h]

/-- A register that has neither a row of its own nor a write rule of the window's ignores writes (R181). -/
theorem writeRegister_of_readOnly {r : Reg} (v : Word) (s : State) (hrow : r.hasOwnRow = false)
    (hstage : ∀ n, r ≠ .stage n) (hmargin : r ≠ .lateMargin) (hconfig : r ≠ .seqConfig) :
    writeRegister r v s = s := by
  cases r with
  | stage n => exact absurd rfl (hstage n)
  | lateMargin => exact absurd rfl hmargin
  | seqConfig => exact absurd rfl hconfig
  | control | busStatus | intCause | intEnable | cmd | cmdResult | outPolarity | outSafe | faultConfig
  | capConfig | capLost | reportBase | reportSize | reportProd | reportCons | reportCtrl | reportStatus
  | reportCoal | aringBase | aringSize | aringProd | aringCons | aringCtrl | aringStatus => cases hrow
  | _ => rfl

/-- Settles O55: each write is the write of the register at its offset, read off the register. -/
theorem windowWritesObeyAccessTypes : Obligations.WindowWritesObeyAccessTypes := by
  intro s v offset lanes hawake
  refine ⟨exec_narrowWrite_of_awake offset v hawake, fun n => ?_, ?_, ?_, ?_, ?_, ?_, ?_, ?_, ?_, ?_⟩
  · exact exec_registerWrite_of_mapped (ofOffset_stage n) v hawake
  · exact exec_registerWrite_of_mapped (r := .lateMargin) rfl v hawake
  · exact exec_registerWrite_of_mapped (r := .seqConfig) rfl v hawake
  · exact fun h => exec_registerWrite_of_unmapped h v hawake
  · exact congrArg (live s) (writeOffset_mask offset v).symm
  · exact congrArg (live s) (writeLanes_mask offset lanes v).symm
  · intro r hr hrow hstage hmargin hconfig
    refine (exec_registerWrite_of_mapped hr v hawake).trans (congrArg _ ?_)
    exact writeRegister_of_readOnly v s hrow hstage hmargin hconfig
  · exact live_of_awake hawake
  · exact live_of_awake hawake
  · exact live_of_awake hawake

/-! ### Grants -/

theorem exec_burstGrant_of_none {s : State} (h : s.bus.chooseGrant = none) : exec .burstGrant s = .next s := by
  refine congrArg Host.Outcome.next ?_
  rw [burstGrant, h]

theorem exec_burstGrant_of_some {s : State} {e : Engine} (h : s.bus.chooseGrant = some e) :
    exec .burstGrant s = .next (grant e s) := by
  refine congrArg Host.Outcome.next ?_
  rw [burstGrant, h]

/-- No grant on a busy bus, and none without a request (R188). -/
theorem chooseGrant_eq_none {b : BusInterface}
    (h : b.onBus ≠ none ∨ (b.admissionSlot = none ∧ b.reportSlot = none)) : b.chooseGrant = none := by
  unfold BusInterface.chooseGrant
  cases hbus : b.onBus with
  | some e => rfl
  | none =>
    obtain ⟨hadmission, hreport⟩ := h.resolve_left (not_not_intro hbus)
    rw [hadmission, hreport]

theorem chooseGrant_eq_admission {b : BusInterface} (hbus : b.onBus = none) (hwaits : b.admissionSlot ≠ none)
    (h : b.reportSlot = none ∨ b.grantMark = .report) : b.chooseGrant = some .admission := by
  obtain ⟨x, hx⟩ := Option.ne_none_iff_exists'.mp hwaits
  cases hr : b.reportSlot with
  | none => simp [BusInterface.chooseGrant, hbus, hx, hr]
  | some y =>
    have hmark : b.grantMark = .report := h.resolve_left (by rw [hr]; nofun)
    simp [BusInterface.chooseGrant, hbus, hx, hr, hmark]

theorem chooseGrant_eq_report {b : BusInterface} (hbus : b.onBus = none) (hwaits : b.reportSlot ≠ none)
    (h : b.admissionSlot = none ∨ b.grantMark = .admission) : b.chooseGrant = some .report := by
  obtain ⟨y, hy⟩ := Option.ne_none_iff_exists'.mp hwaits
  cases ha : b.admissionSlot with
  | none => simp [BusInterface.chooseGrant, hbus, hy, ha]
  | some x =>
    have hmark : b.grantMark = .admission := h.resolve_left (by rw [ha]; nofun)
    simp [BusInterface.chooseGrant, hbus, hy, ha, hmark]

/-- Settles O57: the grant is the choice, case by case. -/
theorem grantsAlternate : Obligations.GrantsAlternate := by
  intro s granted waitsA waitsR
  refine ⟨fun h => ?_, fun hbus hwaits h => ?_, fun hbus hwaits h => ?_⟩
  · exact exec_burstGrant_of_none (chooseGrant_eq_none (h.imp_right fun hno =>
      ⟨not_not.mp hno.1, not_not.mp hno.2⟩))
  · exact exec_burstGrant_of_some (chooseGrant_eq_admission hbus hwaits (h.imp_left not_not.mp))
  · exact exec_burstGrant_of_some (chooseGrant_eq_report hbus hwaits (h.imp_left not_not.mp))

end Sys2Proof.Machine
end

section
/-! PROOFS. CONTROL and the two resets (R184 to R186; O56). -/

namespace Sys2Proof.Machine

/-! ### What a disable leaves of a burst under way -/

theorem afterReset_turnOff (u : ReportUnit) : u.turnOff.afterReset = u.afterReset := by
  have hwords := turnOff_writeWords u
  simp only [ReportUnit.writeWords, Prod.mk.injEq] at hwords
  obtain ⟨hflight, habandoned, -⟩ := hwords
  rw [ReportUnit.afterReset, ReportUnit.afterReset, hflight, habandoned]

theorem EngineAgrees.afterReset_turnOff {a : AdmissionRing} (h : EngineAgrees a) :
    a.turnOff.afterReset = a.afterReset := by
  have hburst : (a.turnOff.fetch == .burst) = (a.fetch == .burst) := by
    rw [Bool.eq_iff_iff, beq_iff_eq, beq_iff_eq]
    exact h.turnOff_burst
  rw [AdmissionRing.afterReset, AdmissionRing.afterReset, hburst, aringTurnOff_abandoned]

/-! ### CONTROL -/

/-- Clearing the bus-master enable is an event to both rings (R184). -/
theorem storeMasterEnable_eq (b : Bool) (s : State) :
    storeMasterEnable b s =
      { s with
        bus := { s.bus with masterEnable := b }
        report := if s.bus.masterEnable = true ∧ b = false then s.report.turnOff else s.report
        aring := if s.bus.masterEnable = true ∧ b = false then s.aring.turnOff else s.aring } := by
  unfold storeMasterEnable
  split
  · rfl
  · rfl

theorem writeControl_of_store {v : Word} (h : v.getLsbD 1 = false) (s : State) :
    writeControl v s = storeMasterEnable (v.getLsbD 0) s := by
  rw [writeControl, h]
  rfl

theorem writeControl_of_reset {v : Word} (h : v.getLsbD 1 = true) (s : State) :
    writeControl v s = softReset (storeMasterEnable (v.getLsbD 0) s) := by
  rw [writeControl, if_pos h]

/-- A soft reset after the bus-master enable is stored differs from one before it in that bit only: what a disable
abandons, the reset abandons (R184, R185). -/
theorem softReset_storeMasterEnable (b : Bool) {s : State} (h : EngineAgrees s.aring) :
    softReset (storeMasterEnable b s) =
      { softReset s with bus := { s.bus with masterEnable := b, narrowFlag := false } } := by
  rw [storeMasterEnable_eq]
  split
  · simp only [softReset, afterReset_turnOff, h.afterReset_turnOff]
  · rfl

/-! ### The values of a reset -/

theorem powerOnReset_eq (s : State) :
    powerOnReset s =
      { State.reset with
        report := s.report.afterReset
        aring := s.aring.afterReset
        bus := { BusInterface.reset with
          admissionSlot := if Config.powerOnWithdraws then none else s.bus.admissionSlot
          reportSlot := if Config.powerOnWithdraws then none else s.bus.reportSlot
          onBus := s.bus.onBus
          readData := s.bus.readData }
        resetAsserted := true
        periodDraws := s.periodDraws
        pending := s.pending } := by
  rw [powerOnReset, slotAfterPowerOn_eq, slotAfterPowerOn_eq]

theorem pins_of_asserted {s : State} (h : s.resetAsserted = true) : s.pins = 0 := if_pos h

theorem intAsserted_of_asserted {s : State} (h : s.resetAsserted = true) : s.intAsserted = false := by
  rw [State.intAsserted, h]
  rfl

/-- Settles O56: the resets are constants but for what they abandon. -/
theorem resetsRestoreTheirValues : Obligations.ResetsRestoreTheirValues := by
  intro s v abandonedWrite abandonedFetch clears stored withdraws
  refine ⟨fun hawake hstore => ?_, fun hawake hinv hreset => ?_, ?_, rfl, fun hasserted => ?_⟩
  · exact (live_of_awake hawake).trans
      (congrArg _ ((writeControl_of_store hstore s).trans (storeMasterEnable_eq _ s)))
  · obtain ⟨hengine, -⟩ := aringInv_iff.mp hinv
    refine (live_of_awake hawake).trans (congrArg _ ?_)
    refine (writeControl_of_reset hreset s).trans ((softReset_storeMasterEnable _ hengine).trans ?_)
    rw [softReset, (hawake : s.resetAsserted = false)]
    rfl
  · exact congrArg _ (powerOnReset_eq s)
  · exact ⟨readOffset_of_asserted hasserted, pins_of_asserted hasserted, intAsserted_of_asserted hasserted,
      fun c hc => exec_of_asserted hasserted hc⟩

end Sys2Proof.Machine
end

section
/-! PROOFS. Words made of fields (Tables 11-2, 11-7 and 11-8), and the ten records (R199; O60). A word that the
model builds by shifts and ors is a word of fields one above the other; the rules below read the second form as
the first. -/

namespace Sys2Proof.Machine

/-! ### Fields -/

/-- A field above others lies at their width. -/
theorem fields_append {m n : Nat} (a : BitVec m) (b : BitVec n) : fields (a ++ b) = fields b ||| fields a <<< n :=
  BitVec.setWidth_append_eq_shiftLeft_setWidth_or.trans (BitVec.or_comm _ _)

theorem fields_zero (n : Nat) : fields 0#n = 0#32 := BitVec.setWidth_zero 32 n

theorem fields_one (b : Bool) : fields (one b) = bitAt b 0 := by
  cases b <;> rfl

theorem bitAt_shiftLeft (b : Bool) (m n : Nat) : bitAt b m <<< n = bitAt b (m + n) := by
  cases b
  · exact BitVec.zero_shiftLeft n
  · exact (BitVec.shiftLeft_add 1#32 m n).symm

theorem or_shiftLeft_shiftLeft (x y : Word) (m n : Nat) :
    (x ||| y <<< m) <<< n = x <<< n ||| y <<< (m + n) := by
  rw [BitVec.shiftLeft_or_distrib, BitVec.shiftLeft_add]

/-- A field above a blank one. -/
theorem fields_gap {m k n : Nat} (a : BitVec m) (b : BitVec n) :
    fields (a ++ 0#k ++ b) = fields b ||| fields a <<< (k + n) := by
  rw [fields_append, fields_append, fields_zero, BitVec.zero_or, BitVec.shiftLeft_add]

/-- A number that fits its field. -/
theorem fields_ofNat {w k : Nat} (hk : k < 2 ^ w) (hw : w ≤ 32) : fields (BitVec.ofNat w k) = BitVec.ofNat 32 k := by
  apply BitVec.eq_of_toNat_eq
  have hword : k < 2 ^ 32 := hk.trans_le (Nat.pow_le_pow_right (by decide) hw)
  rw [BitVec.toNat_setWidth, BitVec.toNat_ofNat, BitVec.toNat_ofNat, Nat.mod_eq_of_lt hk]

/-! ### Word 0 of a record -/

theorem head_eq (kind : BitVec 4) (time : Time) :
    (recordHead (fields kind) 0 time).1 = fields (time.high ++ 0#4 ++ kind) := by
  rw [fields_gap]
  exact congrArg (· ||| _) BitVec.or_zero

theorem firedHead_eq (f : FiredNotice) (kind : BitVec 4) (time : Time) :
    (recordHead (fields kind) f.flags time).1 =
      fields (time.high ++ one f.noRoom ++ one f.trail ++ one f.final ++ one f.late ++ kind) := by
  simp only [fields_append, fields_one, BitVec.shiftLeft_or_distrib, bitAt_shiftLeft, ← BitVec.shiftLeft_add,
    recordHead, FiredNotice.flags, BitVec.or_assoc, highWord]

theorem droppedHead_eq (final : Bool) (kind : BitVec 4) (time : Time) :
    (recordHead (fields kind) (bitAt final 5) time).1 =
      fields (time.high ++ 0#2 ++ one final ++ 0#1 ++ kind) := by
  rw [fields_gap (k := 1), fields_gap (k := 2), fields_one, or_shiftLeft_shiftLeft, bitAt_shiftLeft,
    ← BitVec.or_assoc]
  rfl

/-! ### The ten records -/

theorem words_capture (r : CaptureRecord) :
    r.words =
      #v[fields (r.stamp.high ++ 0#4 ++ 1#4), r.stamp.low,
        fields (one (r.edge == .fall) ++ 0#5 ++ BitVec.ofNat 3 r.line.val), r.seq, fields r.supp, 0, 0, 0] := by
  rw [← head_eq, fields_gap, fields_ofNat (w := 3) r.line.isLt (by decide), fields_one, bitAt_shiftLeft]
  rfl

variable (time : Time)

theorem words_fired (f : FiredNotice) :
    (Notice.mk time (.fired f)).words =
      #v[fields (time.high ++ one f.noRoom ++ one f.trail ++ one f.final ++ one f.late ++ 2#4), time.low, f.serial,
        fields (f.remaining ++ f.tag), f.due.low, fields f.due.high,
        fields (f.refused.extractLsb' 0 8 ++ f.lateness),
        fields (f.refused.extractLsb' 8 8 ++ f.skipped)] := by
  rw [← firedHead_eq]
  simp only [fields, BitVec.setWidth_eq]
  rfl

theorem words_dropped (d : DroppedNotice) :
    (Notice.mk time (.dropped d)).words =
      #v[fields (time.high ++ 0#2 ++ one d.final ++ 0#1 ++ 3#4), time.low, d.serial, fields (d.remaining ++ d.tag),
        d.due.low, fields d.due.high, 0, fields d.skipped] := by
  rw [← droppedHead_eq]
  simp only [fields, BitVec.setWidth_eq]
  rfl

theorem words_rejected (index : BitVec 12) (reason : ResultCode) (tag : BitVec 16) :
    (Notice.mk time (.rejected index reason tag)).words =
      #v[fields (time.high ++ 0#4 ++ 4#4), time.low, fields (reason.code ++ 0#4 ++ index), fields tag,
        0, 0, 0, 0] := by
  rw [← head_eq, fields_gap]
  rfl

theorem words_responseLost (line : Fin 8) (stamp : Time) (reason : ResultCode) :
    (Notice.mk time (.responseLost line stamp reason)).words =
      #v[fields (time.high ++ 0#4 ++ 5#4), time.low, fields (reason.code ++ 0#13 ++ BitVec.ofNat 3 line.val),
        stamp.low, fields stamp.high, 0, 0, 0] := by
  rw [← head_eq, fields_gap, fields_ofNat (w := 3) line.isLt (by decide)]
  rfl

theorem words_patternStopped (line : Fin 16) (final : Bool) (mode : StopMode) :
    (Notice.mk time (.patternStopped line final mode)).words =
      #v[fields (time.high ++ 0#4 ++ 7#4), time.low,
        fields (one (mode == .atBoundary) ++ 0#7 ++ one final ++ 0#4 ++ BitVec.ofNat 4 line.val),
        0, 0, 0, 0, 0] := by
  have hflags : BitVec.ofNat 32 line.val ||| bitAt final 8 ||| bitAt (mode == .atBoundary) 16 =
      fields (one (mode == .atBoundary) ++ 0#7 ++ one final ++ 0#4 ++ BitVec.ofNat 4 line.val) := by
    rw [fields_gap (k := 4), fields_gap (k := 7), fields_ofNat line.isLt (by decide), BitVec.shiftLeft_or_distrib,
      fields_one, fields_one, bitAt_shiftLeft, bitAt_shiftLeft, bitAt_shiftLeft, BitVec.or_assoc]
  rw [← head_eq, ← hflags]
  rfl

/-- A record whose flags and words from 3 on are blank. -/
theorem words_plain (kind : BitVec 4) (x : Word) :
    #v[(recordHead (fields kind) 0 time).1, time.low, x, 0, 0, 0, 0, 0] =
      #v[fields (time.high ++ 0#4 ++ kind), time.low, x, 0, 0, 0, 0, 0] := by
  rw [head_eq]

/-- Settles O60, record by record. -/
theorem recordsLieAsLaidOut : Obligations.RecordsLieAsLaidOut := by
  refine ⟨words_capture, fun time => ⟨words_fired time, words_dropped time, words_rejected time,
    words_responseLost time, fun cause => ?_, words_patternStopped time, fun trim => ?_, ?_, fun count => ?_⟩⟩
  · cases cause <;> exact words_plain time 6#4 _
  · exact words_plain time 8#4 _
  · exact words_plain time 9#4 0
  · exact words_plain time 10#4 count

end Sys2Proof.Machine
end

section
/-! PROOFS. What every word of the window shows (Tables 11-1 and 11-2; O59). -/

namespace Sys2Proof.Machine

/-! ### Reads -/

/-- A read shows the value of the register at its offset. -/
theorem reads {s : State} {offset : BitVec 10} {r : Reg} {w : Word} (hawake : Awake s)
    (hr : Reg.ofOffset offset = some r) (hw : s.regValue r = w) : s.readOffset offset = w :=
  (readOffset_of_mapped hawake hr).trans hw

theorem readOffset_mask (s : State) (offset : BitVec 10) :
    s.readOffset (offset &&& 0x3FC#10) = s.readOffset offset := by
  rw [State.readOffset, State.readOffset, ofOffset_mask]

theorem ofOffset_genPeriod (n : Fin 16) :
    Reg.ofOffset (BitVec.ofNat 10 (0x100 + 4 * n.val)) = some (.genPeriod n) := by
  revert n
  decide

theorem ofOffset_genHigh (n : Fin 16) : Reg.ofOffset (BitVec.ofNat 10 (0x140 + 4 * n.val)) = some (.genHigh n) := by
  revert n
  decide

theorem ofOffset_capConfig (n : Fin 8) :
    Reg.ofOffset (BitVec.ofNat 10 (0x1A0 + 4 * n.val)) = some (.capConfig n) := by
  revert n
  decide

theorem ofOffset_capSeq (n : Fin 8) : Reg.ofOffset (BitVec.ofNat 10 (0x1C0 + 4 * n.val)) = some (.capSeq n) := by
  revert n
  decide

theorem ofOffset_capSupp (n : Fin 8) : Reg.ofOffset (BitVec.ofNat 10 (0x1E0 + 4 * n.val)) = some (.capSupp n) := by
  revert n
  decide

/-! ### Fields of a word -/

theorem getLsbD_fields {n : Nat} (x : BitVec n) {i : Nat} (hi : i < 32) : (fields x).getLsbD i = x.getLsbD i := by
  rw [BitVec.getLsbD_setWidth, decide_eq_true hi, Bool.true_and]

/-- Above its fields a word is 0. -/
theorem extract_above {n : Nat} (x : BitVec n) {start len : Nat} (h : n ≤ start) :
    (fields x).extractLsb' start len = 0#len := by
  refine BitVec.eq_of_getLsbD_eq fun i hi => ?_
  rw [BitVec.getLsbD_extractLsb', BitVec.getLsbD_setWidth, BitVec.getLsbD_of_ge x _ (by omega), BitVec.getLsbD_zero,
    Bool.and_false, Bool.and_false]

theorem fields_eq_zero {n : Nat} (hn : n ≤ 32) {x : BitVec n} : fields x = 0 ↔ x = 0 := by
  rw [← BitVec.toNat_inj, ← BitVec.toNat_inj, BitVec.toNat_setWidth_of_le hn]
  simp

/-! ### The words that hold several fields -/

theorem causeWord_eq (u : InterruptUnit) :
    u.causes.setWidth 32 ||| bitAt u.haltReport 16 ||| bitAt u.haltAdmission 17 =
      fields (one u.haltAdmission ++ one u.haltReport ++ 0#6 ++ u.causes) := by
  rw [fields_gap, fields_append, fields_one, fields_one, BitVec.shiftLeft_or_distrib, bitAt_shiftLeft,
    bitAt_shiftLeft, bitAt_shiftLeft, BitVec.or_assoc]

theorem resultWord_eq (p : CommandPort) :
    p.resultWord =
      fields (one p.overrun ++ one p.buffer.isSome ++ p.completions ++ p.resultCommand ++ p.result.code) := by
  simp only [CommandPort.resultWord, fields_append, fields_one, BitVec.shiftLeft_or_distrib, bitAt_shiftLeft,
    ← BitVec.shiftLeft_add, BitVec.or_assoc]

theorem faultWord_eq (gate latch seen : Bool) :
    bitAt gate 0 ||| bitAt latch 1 ||| bitAt seen 2 = fields (one seen ++ one latch ++ one gate) := by
  simp only [fields_append, fields_one, BitVec.shiftLeft_or_distrib, bitAt_shiftLeft, BitVec.or_assoc]

theorem configWord_eq (enable : Bool) (select : BitVec 2) (holdoff : BitVec 16) :
    bitAt enable 0 ||| (fields select <<< 4) ||| (holdoff.setWidth 32 <<< 16) =
      fields (holdoff ++ 0#10 ++ select ++ 0#3 ++ one enable) := by
  rw [fields_gap (k := 3), fields_gap (k := 10), fields_one, or_shiftLeft_shiftLeft, BitVec.or_assoc]

theorem ringStatus_eq (r : Ring) (code : BitVec 2) (inFlight : Bool) :
    r.statusWord (fields code) inFlight =
      fields (one r.enableRefused ++ one r.ignoredWrite ++ 0#2 ++ one inFlight ++ one r.disablePending ++ 0#2
        ++ code) := by
  rw [fields_gap (k := 2)]
  simp only [Ring.statusWord, fields_append, fields_zero, fields_one, BitVec.shiftLeft_or_distrib, bitAt_shiftLeft,
    BitVec.zero_or, BitVec.or_assoc]

theorem aringStatus_eq (r : Ring) (code : BitVec 2) (fetching retry : Bool) :
    r.statusWord (fields code) fetching ||| bitAt retry 6 =
      fields (one r.enableRefused ++ one r.ignoredWrite ++ 0#1 ++ one retry ++ one fetching ++ one r.disablePending
        ++ 0#2 ++ code) := by
  rw [fields_gap (k := 2)]
  simp only [Ring.statusWord, fields_append, fields_zero, fields_one, BitVec.shiftLeft_or_distrib, bitAt_shiftLeft,
    BitVec.zero_or]
  ac_rfl

/-! ### TABLE_STATUS -/

/-- The three counts of TABLE_STATUS as fields of 10 bits. -/
theorem tableStatus_eq {t : Table} (h : occupancyOf t.entries ≤ Config.tableSlots) :
    t.statusWord = fields (BitVec.ofNat 10 (freeSlotsOf t.entries) ++ BitVec.ofNat 10 (reservationsOf t.entries)
      ++ BitVec.ofNat 10 t.entries.length) := by
  have hslots : t.entries.length + reservationsOf t.entries ≤ 256 := h
  have hfree : freeSlotsOf t.entries ≤ 256 := Nat.sub_le _ _
  rw [fields_append, fields_append, fields_ofNat (by omega) (by decide), fields_ofNat (by omega) (by decide),
    fields_ofNat (by omega) (by decide), or_shiftLeft_shiftLeft, ← BitVec.or_assoc]
  rfl

/-- The counts of TABLE_STATUS, read back from its fields. -/
theorem tableStatus_counts {a b c : Nat} (ha : a < 2 ^ 10) (hb : b < 2 ^ 10) (hc : c < 2 ^ 10) {w : Word}
    (hw : w = fields (BitVec.ofNat 10 c ++ BitVec.ofNat 10 b ++ BitVec.ofNat 10 a)) :
    (w.extractLsb' 0 10).toNat = a ∧ (w.extractLsb' 10 10).toNat = b ∧ (w.extractLsb' 20 10).toNat = c
      ∧ w.extractLsb' 30 2 = 0 := by
  subst hw
  refine ⟨?_, ?_, ?_, extract_above _ (by decide)⟩
  · rw [BitVec.extractLsb'_setWidth_of_le (by decide), BitVec.extractLsb'_append_eq_right, BitVec.toNat_ofNat,
      Nat.mod_eq_of_lt ha]
  · rw [BitVec.extractLsb'_setWidth_of_le (by decide), BitVec.extractLsb'_append_eq_of_le (by decide),
      BitVec.extractLsb'_append_eq_right, BitVec.toNat_ofNat, Nat.mod_eq_of_lt hb]
  · rw [BitVec.extractLsb'_setWidth_of_le (by decide), BitVec.extractLsb'_append_eq_of_le (by decide),
      BitVec.extractLsb'_append_eq_left, BitVec.toNat_ofNat, Nat.mod_eq_of_lt hc]

/-! ### RESP_STATUS -/

/-- Position `j` of the `n`-th of eight 4-bit positions. -/
theorem getLsbD_nibbles {f : Fin 8 → Word} (hf : ∀ n i, 4 ≤ i → (f n).getLsbD i = false) (n : Fin 8) {j : Nat}
    (hj : j < 4) : (nibbles f).getLsbD (4 * n.val + j) = (f n).getLsbD j := by
  have hfold : ∀ (l : List (Fin 8)) (i : Nat),
      (l.foldr (fun m w => (f m <<< (4 * m.val)) ||| w) 0).getLsbD i
        = l.any fun m => (f m <<< (4 * m.val)).getLsbD i := fun l i => by
    induction l with
    | nil => exact BitVec.getLsbD_zero
    | cons m l ih => rw [List.foldr_cons, BitVec.getLsbD_or, ih, List.any_cons]
  have hn := n.isLt
  have hsame : (f n <<< (4 * n.val)).getLsbD (4 * n.val + j) = (f n).getLsbD j := by
    rw [BitVec.getLsbD_shiftLeft, Nat.add_sub_cancel_left, decide_eq_true (by omega), decide_eq_false (by omega)]
    simp
  have hother : ∀ m : Fin 8, (f m <<< (4 * m.val)).getLsbD (4 * n.val + j) = true → m = n := fun m hm => by
    rw [BitVec.getLsbD_shiftLeft] at hm
    simp only [Bool.and_eq_true, Bool.not_eq_true', decide_eq_true_eq, decide_eq_false_iff_not] at hm
    obtain ⟨⟨-, hlow⟩, hbit⟩ := hm
    by_contra hne
    have hval : m.val ≠ n.val := fun h => hne (Fin.ext h)
    rw [hf m _ (by omega)] at hbit
    cases hbit
  rw [nibbles, hfold, Bool.eq_iff_iff, List.any_eq_true]
  refine ⟨fun ⟨m, _, hm⟩ => ?_, fun h => ⟨n, List.mem_finRange n, hsame.trans h⟩⟩
  obtain rfl := hother m hm
  exact hsame.symm.trans hm

theorem templateCode_eq (q : TemplateState) : q.code = fields (q.code.setWidth 2) := by
  cases q <;> rfl

theorem status_eq (u : ResponseUnit) (n : Fin 8) :
    u.status n = fields (one (u.outstanding n) ++ u.templates[n].state.code.setWidth 2) := by
  rw [fields_append, ← templateCode_eq, fields_one, bitAt_shiftLeft]
  rfl

theorem getLsbD_respStatus (u : ResponseUnit) (n : Fin 8) {j : Nat} (hj : j < 4) :
    (nibbles u.status).getLsbD (4 * n.val + j) =
      (one (u.outstanding n) ++ u.templates[n].state.code.setWidth 2).getLsbD j := by
  have hhigh : ∀ m i, 4 ≤ i → (u.status m).getLsbD i = false := fun m i hi => by
    rw [status_eq, BitVec.getLsbD_setWidth, BitVec.getLsbD_of_ge _ _ (by omega), Bool.and_false]
  rw [getLsbD_nibbles hhigh n hj, status_eq, getLsbD_fields _ (by omega)]

theorem respStatus_state (u : ResponseUnit) (n : Fin 8) :
    (nibbles u.status).extractLsb' (4 * n.val) 2 = u.templates[n].state.code.setWidth 2 := by
  refine BitVec.eq_of_getLsbD_eq fun i hi => ?_
  rw [BitVec.getLsbD_extractLsb', getLsbD_respStatus u n (by omega), BitVec.getLsbD_append, if_pos hi,
    decide_eq_true hi, Bool.true_and]

theorem respStatus_outstanding (u : ResponseUnit) (n : Fin 8) :
    (nibbles u.status).getLsbD (4 * n.val + 2) = u.outstanding n := by
  rw [getLsbD_respStatus u n (by decide), BitVec.getLsbD_append]
  exact BitVec.getLsbD_ofBool ..

theorem respStatus_blank (u : ResponseUnit) (n : Fin 8) :
    (nibbles u.status).getLsbD (4 * n.val + 3) = false := by
  rw [getLsbD_respStatus u n (by decide)]
  exact BitVec.getLsbD_of_ge _ _ (by decide)

end Sys2Proof.Machine
end

section
/-! PROOFS. The window, block by block (Tables 11-1 and 11-2; O59). -/

namespace Sys2Proof.Machine

variable {s : State}

theorem showsPort (hawake : Awake s) : ShowsPort s :=
  ⟨reads (r := .id) hawake rfl rfl, reads (r := .control) hawake rfl (fields_one _).symm,
    reads (r := .busStatus) hawake rfl (fields_one _).symm, reads (r := .intCause) hawake rfl (causeWord_eq _),
    reads (r := .intEnable) hawake rfl rfl, reads (r := .intActive) hawake rfl rfl,
    fun n => reads hawake (ofOffset_stage n) rfl, reads (r := .cmd) hawake rfl rfl,
    reads (r := .cmdResult) hawake rfl (resultWord_eq _), reads (r := .cmdValue0) hawake rfl rfl,
    reads (r := .cmdValue1) hawake rfl rfl⟩

theorem seqStatus_eq (q : SeqState) (c : StopCause) :
    q.code ||| (c.code <<< 4) = fields ((match c with
      | .reset => 0#2 | .command => 1#2 | .single => 2#2 | .fault => 3#2)
      ++ 0#2 ++ (match q with | .stopped => 0#2 | .running => 1#2 | .single => 2#2)) := by
  rw [fields_gap (k := 2)]
  have hstate : q.code = fields (match q with | .stopped => 0#2 | .running => 1#2 | .single => 2#2) := by
    cases q <;> rfl
  rw [hstate]
  cases c <;> rfl

theorem headDue_nil : (headDue []).low = 0xFFFFFFFF#32 := by decide

theorem showsTime (hawake : Awake s) : ShowsTime s := by
  refine ⟨reads (r := .timeLo) hawake rfl rfl, reads (r := .timeHi) hawake rfl rfl,
    reads (r := .trimActive) hawake rfl rfl, reads (r := .trimPending) hawake rfl rfl,
    reads (r := .lateMargin) hawake rfl rfl, fun hempty => reads (r := .headDueLo) hawake rfl ?_,
    fun e rest hhead => reads (r := .headDueLo) hawake rfl ?_, reads (r := .headDueHi) hawake rfl rfl,
    reads (r := .serialNext) hawake rfl rfl, reads (r := .queryDueHi) hawake rfl rfl,
    reads (r := .seqStatus) hawake rfl (seqStatus_eq _ _), reads (r := .seqConfig) hawake rfl (fields_one _).symm⟩
  · rw [State.regValue, hempty, headDue_nil]
  · rw [State.regValue, hhead]
    rfl

/-! ### Lines -/

theorem getLsbD_genMask (l : LineUnit) (p : Generator → Bool) (n : Fin 16) :
    (l.genMask p).getLsbD n = p l.gens[n] := by
  simp [LineUnit.genMask]

/-- A mask above a mask. -/
theorem twoMasks_eq (low high : LineMask) : maskWord low ||| (maskWord high <<< 16) = fields (high ++ low) :=
  (fields_append high low).symm

theorem showsLines (hawake : Awake s) : ShowsLines s := by
  refine ⟨reads (r := .outPolarity) hawake rfl rfl, reads (r := .outSafe) hawake rfl rfl,
    reads (r := .outLevel) hawake rfl rfl, reads (r := .outPins) hawake rfl rfl,
    reads (r := .faultConfig) hawake rfl (fields_one _).symm,
    reads (r := .gateFaultStatus) hawake rfl (faultWord_eq _ _ _), ?_, ?_, fun n => ?_⟩
  · rw [readOffset_of_mapped (r := .outMode) hawake rfl]
    exact extract_above s.lines.patternMask (by decide)
  · rw [readOffset_of_mapped (r := .patternFinal) hawake rfl]
    exact extract_above (s.lines.genMask _) (by decide)
  have hn := n.isLt
  refine ⟨?_, ?_, ?_, ?_, reads hawake (ofOffset_genPeriod n) rfl, reads hawake (ofOffset_genHigh n) rfl⟩
  · rw [readOffset_of_mapped (r := .outMode) hawake rfl]
    exact (getLsbD_maskWord _ n).trans (getLsbD_patternMask _ n)
  · rw [readOffset_of_mapped (r := .patternPending) hawake rfl, State.regValue, twoMasks_eq,
      getLsbD_fields _ (by omega), BitVec.getLsbD_append, if_pos hn]
    exact getLsbD_genMask _ _ n
  · rw [readOffset_of_mapped (r := .patternPending) hawake rfl, State.regValue, twoMasks_eq,
      getLsbD_fields _ (by omega), BitVec.getLsbD_append, if_neg (by omega), Nat.add_sub_cancel_left]
    exact getLsbD_genMask _ _ n
  · rw [readOffset_of_mapped (r := .patternFinal) hawake rfl]
    exact (getLsbD_maskWord _ n).trans (getLsbD_genMask _ _ n)

/-! ### Capture and responses -/

theorem configWord_fields (l : InputLine) :
    l.configWord = fields (l.holdoff ++ 0#10
      ++ (match l.select with | .rise => 0#2 | .fall => 1#2 | .both => 2#2) ++ 0#3 ++ one l.enable) := by
  unfold InputLine.configWord
  cases l.select with
  | rise => exact configWord_eq _ 0#2 _
  | fall => exact configWord_eq _ 1#2 _
  | both => exact configWord_eq _ 2#2 _

theorem showsCapture (hawake : Awake s) : ShowsCapture s := by
  have hinputs := readOffset_of_mapped (offset := 0x180) (r := .inLevel) hawake rfl
  have hstatus : s.readOffset 0x188 = nibbles s.response.status := reads (r := .respStatus) hawake rfl rfl
  refine ⟨?_, reads (r := .capLogCount) hawake rfl rfl, fun n => ⟨?_, ?_, ?_, ?_,
    reads hawake (ofOffset_capConfig n) (configWord_fields _), reads hawake (ofOffset_capSeq n) rfl,
    reads hawake (ofOffset_capSupp n) rfl, reads hawake (ofOffset_capLost n) rfl⟩⟩
  · rw [hinputs]
    exact extract_above _ (by decide)
  · have hn := n.isLt
    rw [hinputs, State.regValue, getLsbD_fields _ (by omega)]
    simp
  · rw [hstatus, respStatus_state]
    cases s.response.templates[n].state <;> rfl
  · rw [hstatus, respStatus_outstanding, outstanding_iff]
    simp only [Fin.ext_iff]
  · rw [hstatus]
    exact respStatus_blank _ n

/-! ### Rings -/

theorem reportStatus_fields (r : Ring) (q : ReportState) (inFlight : Bool) :
    r.statusWord q.code inFlight =
      fields (one r.enableRefused ++ one r.ignoredWrite ++ 0#2 ++ one inFlight ++ one r.disablePending ++ 0#2
        ++ (match q with | .disabled => 0#2 | .running => 1#2 | .full => 2#2 | .halted => 3#2)) := by
  cases q with
  | disabled => exact ringStatus_eq _ 0#2 _
  | running => exact ringStatus_eq _ 1#2 _
  | full => exact ringStatus_eq _ 2#2 _
  | halted => exact ringStatus_eq _ 3#2 _

theorem aringStatus_fields (r : Ring) (q : AringState) (fetching retry : Bool) :
    r.statusWord q.code fetching ||| bitAt retry 6 =
      fields (one r.enableRefused ++ one r.ignoredWrite ++ 0#1 ++ one retry ++ one fetching ++ one r.disablePending
        ++ 0#2 ++ (match q with | .disabled => 0#2 | .running => 1#2 | .held => 2#2 | .halted => 3#2)) := by
  cases q with
  | disabled => exact aringStatus_eq _ 0#2 _ _
  | running => exact aringStatus_eq _ 1#2 _ _
  | held => exact aringStatus_eq _ 2#2 _ _
  | halted => exact aringStatus_eq _ 3#2 _ _

/-- The notice count lies below the loss count, each in its field (R196). -/
theorem noticeStatus_eq {count : Nat} (h : count ≤ Config.noticeSlots) (loss : BitVec 32) :
    countWord count ||| (highWord (shown loss.toNat) <<< 8) =
      fields (BitVec.ofNat 24 (min loss.toNat (2 ^ 24 - 1)) ++ BitVec.ofNat 8 count) := by
  have hcount : count ≤ 32 := h
  rw [fields_append, fields_ofNat (w := 8) (by omega) (by decide)]
  rfl

theorem coalWord_eq {threshold delay : Nat} (ht : threshold ≤ 255) (hd : delay ≤ Config.maxDelay) :
    countWord threshold ||| (countWord delay <<< 8) =
      fields (BitVec.ofNat 21 delay ++ BitVec.ofNat 8 threshold) := by
  have hdelay : delay ≤ 2 ^ 20 := hd
  rw [fields_append, fields_ofNat (w := 8) (by omega) (by decide), fields_ofNat (w := 21) (by omega) (by decide)]
  rfl

theorem showsRings (hawake : Awake s) (hqueue : QueueFits s.report) : ShowsRings s :=
  ⟨reads (r := .noticeStatus) hawake rfl (noticeStatus_eq hqueue.bounded _),
    reads (r := .reportBase) hawake rfl rfl, reads (r := .reportSize) hawake rfl rfl,
    reads (r := .reportProd) hawake rfl rfl, reads (r := .reportCons) hawake rfl rfl,
    reads (r := .reportCtrl) hawake rfl (fields_one _).symm,
    reads (r := .reportStatus) hawake rfl (reportStatus_fields _ _ _),
    reads (r := .reportCoal) hawake rfl (coalWord_eq hqueue.thresholdHigh hqueue.delay),
    reads (r := .reportCount) hawake rfl rfl, reads (r := .aringBase) hawake rfl rfl,
    reads (r := .aringSize) hawake rfl rfl, reads (r := .aringProd) hawake rfl rfl,
    reads (r := .aringCons) hawake rfl rfl, reads (r := .aringCtrl) hawake rfl (fields_one _).symm,
    reads (r := .aringStatus) hawake rfl (aringStatus_fields _ _ _ _)⟩

/-! ### The whole window -/

/-- INT_N is asserted while INT_ACTIVE is not 0 (R193). -/
theorem intAsserted_iff (hawake : Awake s) : s.intAsserted = true ↔ s.readOffset 0x018 ≠ 0 := by
  have hactive : s.readOffset 0x018 = fields s.irq.active := reads (r := .intActive) hawake rfl rfl
  rw [hactive, Ne, fields_eq_zero (by decide), State.intAsserted, (hawake : s.resetAsserted = false)]
  simp

/-- Settles O59: the blocks' words, and TABLE_STATUS with its counts bounded by the table. -/
theorem windowReadsShowEveryField : Obligations.WindowReadsShowEveryField := by
  intro s hawake htable hqueue word entries reservations
  obtain ⟨-, -, hoccupancy, -⟩ := htable
  obtain ⟨hfits, -⟩ := queueInv_iff.mp hqueue
  have hslots : entries + reservations ≤ 256 := hoccupancy
  have hfree : freeSlotsOf s.table.entries = 256 - entries - reservations := Nat.sub_add_eq _ _ _
  have hword : word = fields (BitVec.ofNat 10 (freeSlotsOf s.table.entries) ++ BitVec.ofNat 10 reservations
      ++ BitVec.ofNat 10 entries) := reads (r := .tableStatus) hawake rfl (tableStatus_eq hoccupancy)
  obtain ⟨hentries, hreserved, hcount, hblank⟩ :=
    tableStatus_counts (a := entries) (b := reservations) (by omega) (by omega) (by omega) hword
  exact ⟨hentries, hreserved, hcount.trans hfree, hblank, intAsserted_iff hawake,
    fun offset => readOffset_of_unmapped, fun offset => (readOffset_mask s offset).symm, rfl, rfl,
    showsPort hawake, showsTime hawake, showsLines hawake, showsCapture hawake, showsRings hawake hfits⟩

end Sys2Proof.Machine
end

section
/-! PROOFS. The part just after reset: its window and its invariants (Table 11-1; O3). -/

namespace Sys2Proof.Machine

/-! ### The window -/

/-- The power-on value of a mapped register (Table 11-1). -/
def resetWord : Reg → Word
  | .id => 0x2B160801#32
  | .lateMargin => 4#32
  | .tableStatus => 0x10000000#32
  | .headDueLo => 0xFFFFFFFF#32
  | .genPeriod _ => 2#32
  | .reportSize | .aringSize => 0x10#32
  | .reportCoal => 1#32
  | _ => 0#32

theorem gens_reset (n : Fin 16) : State.reset.lines.gens[n] = Generator.reset :=
  Vector.getElem_replicate n.isLt

theorem inputs_reset (n : Fin 8) : State.reset.capture.inputs[n] = InputLine.reset :=
  Vector.getElem_replicate n.isLt

theorem templates_reset (n : Fin 8) : State.reset.response.templates[n] = Template.reset :=
  Vector.getElem_replicate n.isLt

/-- Every register shows its power-on value at reset. -/
theorem regValue_reset (r : Reg) : State.reset.regValue r = resetWord r := by
  cases r with
  | stage n => exact Vector.getElem_replicate n.isLt
  | genPeriod n => rw [State.regValue, gens_reset]; rfl
  | genHigh n => rw [State.regValue, gens_reset]; rfl
  | capConfig n => rw [State.regValue, inputs_reset]; rfl
  | capSeq n => rw [State.regValue, inputs_reset]; rfl
  | capSupp n => rw [State.regValue, inputs_reset]; rfl
  | capLost n => rw [State.regValue, inputs_reset]; rfl
  | _ => rfl

/-- The power-on value of word `k` of the window (Table 11-1). -/
def windowAtReset (k : Nat) : Word :=
  if k = 0x000 / 4 then 0x2B160801#32
  else if k = 0x070 / 4 then 4#32
  else if k = 0x080 / 4 then 0x10000000#32
  else if k = 0x084 / 4 then 0xFFFFFFFF#32
  else if 0x100 / 4 ≤ k ∧ k ≤ 0x13C / 4 then 2#32
  else if k = 0x248 / 4 ∨ k = 0x284 / 4 then 0x10#32
  else if k = 0x25C / 4 then 1#32
  else 0#32

/-- Table 11-1, sixteen words a line. -/
theorem resetWord_ofLine : ∀ line column : Fin 16,
    (Reg.ofOffset (BitVec.ofNat 10 (4 * (16 * line.val + column.val)))).elim 0#32 resetWord =
      windowAtReset (16 * line.val + column.val) := by
  decide

theorem resetWord_ofOffset (k : Fin 256) :
    (Reg.ofOffset (BitVec.ofNat 10 (4 * k.val))).elim 0#32 resetWord = windowAtReset k.val := by
  have hk := k.isLt
  have hline := resetWord_ofLine ⟨k.val / 16, by omega⟩ ⟨k.val % 16, by omega⟩
  rwa [Nat.div_add_mod] at hline

theorem readOffset_reset (offset : BitVec 10) :
    State.reset.readOffset offset = (Reg.ofOffset offset).elim 0#32 resetWord := by
  cases hr : Reg.ofOffset offset with
  | none => exact readOffset_of_unmapped hr
  | some r => exact (readOffset_of_mapped rfl hr).trans (regValue_reset r)

/-! ### The invariants -/

theorem ringInv_reset : RingInv State.reset := ⟨ring_reset_fits false, ring_reset_fits false, rfl, rfl⟩

theorem reportInv_reset : ReportInv State.reset := by
  refine reportInv_iff.mpr ⟨ringAgrees_reset false, nofun, ?_⟩
  exact ⟨rfl, nofun, nofun, fun h => by rcases h with h | h <;> cases h⟩

theorem aringInv_reset : AringInv State.reset := by
  refine aringInv_iff.mpr ⟨engineAgrees_reset false, nofun, ?_⟩
  exact ⟨nofun, nofun, fun h => by rcases h with h | h <;> cases h⟩

theorem responseInv_reset : ResponseInv State.reset := by
  refine responseInv_iff.mpr fun n => ?_
  rw [templates_reset]
  exact ⟨fun _ => ⟨rfl, rfl⟩, nofun, nofun⟩

/-- Settles O3: the values by unfolding, the window register by register, and each invariant. -/
theorem invariantsHoldAtReset : Obligations.InvariantsHoldAtReset := by
  refine ⟨rfl, fun k => (readOffset_reset _).trans (resetWord_ofOffset k), tableInv_of_reset rfl rfl,
    generatorInv_of_reset rfl, queueInv_of_reset rfl rfl, ringInv_reset, reportInv_reset, aringInv_reset,
    responseInv_reset, nofun, nofun⟩

end Sys2Proof.Machine
end
